-- ==== Sys2Proof/Word.lean ====
section
/-!
DEFINITION. The word types of the WJ8410 and the names by which clients, lines, inputs and slots
are numbered (00_scope.md, Sets of things).
-/

namespace Sys2Proof

/-- One byte of a frame, a record or an option copy. -/
abbrev Byte := BitVec 8

/-- A value of one of the two 48-bit counts (R2, R3). All arithmetic on it is modulo 2^48. -/
abbrev Count := BitVec 48

/-- A client, 0 to 3. -/
abbrev ClientId := Fin 4

/-- An event line, EL0 to EL7. -/
abbrev LineId := Fin 8

/-- A capture input, IN0 to IN3. -/
abbrev InputId := Fin 4

/-- A slot of the event calendar, 0 to 63 (R54). -/
abbrev SlotId := Fin 64

/-- The number by which a client names an entry (R57). -/
abbrev Handle := BitVec 16

end Sys2Proof
end

