-- ==== Sys2Proof/Config.lean ====
section
/-!
DEFINITION. What the specification fixes as numbers, and the one free value of the model.
-/

namespace Sys2Proof.Config

/-- The free value (log 7): nothing is known of it. It is applied to the counter `State.freeCount`, which
every use advances, so that each use reads a fresh value. It stands for the order of events that are due
together and not ordered by the queue (log 2, log 22), for the oscillator whose cycle passes next with no
command queued (log 8), for what a reset leaves in an option copy that was being written (R175, log 14), for
the bytes read back at a store completion that no command took (log 15), and for the power-up flag below 1.2 V
(log 17). -/
opaque freeNat : Nat → Nat

/-- Backup cycles without a main edge that make a missing edge (R9). -/
def missingEdgeCycles : Nat := 4

/-- Oscillator cycles in one tick (R1). -/
def cyclesPerTick : Nat := 8

/-- The proving run of a restart and of clock start, in main-oscillator cycles (R12, R14). -/
def provingRun : Nat := 16384

/-- The start window of a restart and the time for clock start, 10 ms in backup-oscillator cycles (R12,
R14). -/
def startWindowCycles : Nat := 80000

/-- Cycles RESETn must be low to reset the device (R177). -/
def resetLowCycles : Nat := 16

/-- The furthest distance ahead at which an entry may lie (R78). -/
def horizon : Nat := 2 ^ 40

/-- The least distance ahead of a due at its booking (R60). -/
def minLead : Nat := 50

/-- The step limit once time is SET (R23). -/
def stepLimit : Nat := 2 ^ 32 - 1

/-- Half the range of a count: a value is ahead when its distance is below it (R6). -/
def halfRange : Nat := 2 ^ 47

/-- Ticks in one millisecond of a keepalive period (R17). -/
def ticksPerMs : Nat := 1000

/-- Ticks a store takes (R174). -/
def storeTicks : Nat := 8000

/-- Ticks of the two hold filters (R163, R164). -/
def holdFilterTicks : Nat := 20

/-- Ticks within which a taken request completes (R136). -/
def requestTicks : Nat := 25

/-- Records a notice queue holds (R125). -/
def noticeCapacity : Nat := 12

/-- Records below which a real capture is appended (R108). -/
def captureRoom : Nat := 15

/-- Supply levels in microvolts (R162, R168). -/
def collapseUv : Nat := 2400000
/-- The release level of a reset (R177). -/
def releaseUv : Nat := 2500000
/-- The level below which the reset-cause records are not kept (R168). -/
def retentionUv : Nat := 1200000
/-- The exit level lies 80 mV above the hold threshold (R162). -/
def hysteresisUv : Nat := 80000

end Sys2Proof.Config
end

