-- ==== Sys2Proof/Syntax.lean ====
section
/-!
DEFINITION. The commands of the block: one constructor of `Instr` for each row of
spec/opcode_table.json, in the table's order. No row of the table gives operands; those here are what
comes from outside the device at that step (log 8, log 9, log 11, log 12, log 13, log 15, log 16).
-/

namespace Sys2Proof

/-- The level of an input pin or of its filtered copy (00_scope.md, Levels). -/
inductive PinLevel where
  | low | high
  deriving DecidableEq, Repr

/-- The two oscillators (R1). -/
inductive Oscillator where
  | main | backup
  deriving DecidableEq, Repr

/-- The two select inputs of the four-wire port (R149). -/
inductive Select where
  | selA | selB
  deriving DecidableEq, Repr

/-- The two conditions of the two-wire bus (R156). -/
inductive BusCondition where
  | start | stop
  deriving DecidableEq, Repr

/-- The levels that the sampled input pins show at a tick (R27, R98). -/
structure PinSample where
  /-- IN0..IN3. -/
  inputs : Vector PinLevel 4
  /-- SYNC. -/
  sync : PinLevel
  deriving DecidableEq, Repr

/-- The commands. A request's row (OPEN to STORE_OPTIONS) is the execution of the request that the
engine holds; its parameters are in that frame (log 9). TICK and CLOCK_START carry the cycles of the two
oscillators that pass, in their order; an event of the clock supervisor brings the cycles that it still
lacks (log 8). -/
inductive Instr where
  /-- TICK: a stretch of oscillator cycles with one tick in it, and the levels at that tick. -/
  | tick (cycles : List Oscillator) (pins : PinSample)
  /-- ACCEPTED_EDGE on one input. -/
  | acceptedEdge (input : InputId)
  /-- SYNC_EDGE. -/
  | syncEdge
  /-- OCCURRENCE of the entry in one slot. -/
  | occurrence (slot : SlotId)
  /-- PULSE_END on one line. -/
  | pulseEnd (line : LineId)
  /-- KEEPALIVE_EXPIRY of one client. -/
  | keepaliveExpiry (client : ClientId)
  /-- FAILOVER. -/
  | failover
  /-- RESTART_SUCCESS. -/
  | restartSuccess
  /-- RESTART_MISSING_EDGE. -/
  | restartMissingEdge
  /-- START_WINDOW_EXPIRY. -/
  | startWindowExpiry
  /-- SUPPLY_CROSSING: the new supply level in microvolts. -/
  | supplyCrossing (microvolts : Nat)
  /-- HOLD_ENTRY. -/
  | holdEntry
  /-- HOLD_EXIT. -/
  | holdExit
  /-- STORE_COMPLETION: the bytes read back from the target copy. -/
  | storeCompletion (readBack : List Byte)
  /-- POWER_RESET: the new supply level in microvolts. -/
  | powerReset (microvolts : Nat)
  /-- SUPPLY_COLLAPSE: the new supply level in microvolts. -/
  | supplyCollapse (microvolts : Nat)
  /-- PIN_RESET: for how many backup cycles RESETn has been low. -/
  | pinReset (lowCycles : Nat)
  /-- START_SEQUENCE: the supply level and RESETn at the release. -/
  | startSequence (microvolts : Nat) (resetn : PinLevel)
  /-- OPTION_LOAD. -/
  | optionLoad
  /-- CLOCK_START: the oscillator cycles that pass before its end. -/
  | clockStart (cycles : List Oscillator)
  /-- REQUEST_TAKE. -/
  | requestTake
  /-- REQUEST_COMPLETION. -/
  | requestCompletion
  /-- UNKNOWN_KIND. -/
  | unknownKind
  /-- OPEN. -/
  | openSession
  /-- CLOSE. -/
  | closeSession
  /-- HEARTBEAT. -/
  | heartbeat
  /-- SET_ATTENTION. -/
  | setAttention
  /-- INFO. -/
  | info
  /-- ACQUIRE. -/
  | acquire
  /-- RELEASE. -/
  | release
  /-- LEAVE_QUEUE. -/
  | leaveQueue
  /-- DRIVE. -/
  | drive
  /-- LINE_STATUS. -/
  | lineStatus
  /-- SCHEDULE. -/
  | schedule
  /-- BATCH. -/
  | batch
  /-- CANCEL. -/
  | cancel
  /-- CANCEL_LINE. -/
  | cancelLine
  /-- QUERY_ENTRY. -/
  | queryEntry
  /-- LIST_ENTRIES. -/
  | listEntries
  /-- SUBSCRIBE. -/
  | subscribe
  /-- UNSUBSCRIBE. -/
  | unsubscribe
  /-- TAKE_CAPTURES. -/
  | takeCaptures
  /-- TAKE_NOTICES. -/
  | takeNotices
  /-- READ_TIME. -/
  | readTime
  /-- CLAIM_AUTHORITY. -/
  | claimAuthority
  /-- YIELD_AUTHORITY. -/
  | yieldAuthority
  /-- SET_TIME. -/
  | setTime
  /-- SHIFT. -/
  | shift
  /-- ARM_SYNC. -/
  | armSync
  /-- DISARM_SYNC. -/
  | disarmSync
  /-- RESTORE_CLOCK. -/
  | restoreClock
  /-- READ_OPTIONS. -/
  | readOptions
  /-- STORE_OPTIONS. -/
  | storeOptions
  /-- SELECT_ACTIVE of one select. -/
  | selectActive (sel : Select)
  /-- SELECT_COLLISION: the select that becomes active while the other is. -/
  | selectCollision (sel : Select)
  /-- SELECT_RELEASE: the select, and the SDI bits clocked since the last command, first bit first. -/
  | selectRelease (sel : Select) (bits : List Bool)
  /-- FETCH: the eighth bit of a first byte of 00h. -/
  | fetch
  /-- TWO_WIRE_WRITE: START, address and the data bytes the master sends. -/
  | twoWireWrite (address : BitVec 7) (bytes : List Byte)
  /-- TWO_WIRE_READ: START, address, how many bits the master clocks out, and whether it
  acknowledged the last whole byte. -/
  | twoWireRead (address : BitVec 7) (bits : Nat) (lastAcked : Bool)
  /-- BUS_ERROR: a START or STOP, wherever it comes. -/
  | busError (condition : BusCondition)
  /-- FIRST_MAIN_EDGE. -/
  | firstMainEdge
  /-- STATUS_BYTE_SENT_WHOLE: the first byte the master sent, the kind of its frame. -/
  | statusByteSentWhole (firstByte : Byte)
  /-- SUPPLY_FALLING_BELOW_1V2: the new supply level in microvolts. -/
  | supplyFallingBelow1V2 (microvolts : Nat)
  deriving DecidableEq, Repr

end Sys2Proof
end

