-- ==== Sys2Proof/WellFormed.lean ====
section
/-!
DEFINITION. Which commands are well formed: the operands of each row fit the event that the row
names. An ill-formed command names no event of the device, and the machine then takes none (log 1).
-/

namespace Sys2Proof

/-- The operands of a command name the event of its row. -/
def Instr.wellFormed : Instr → Bool
  | .tick _ _ => true
  | .acceptedEdge _ => true
  | .syncEdge => true
  | .occurrence _ => true
  | .pulseEnd _ => true
  | .keepaliveExpiry _ => true
  | .failover => true
  | .restartSuccess => true
  | .restartMissingEdge => true
  | .startWindowExpiry => true
  | .supplyCrossing v => decide (Config.collapseUv ≤ v)
  | .holdEntry => true
  | .holdExit => true
  | .storeCompletion bytes => bytes.length == 32
  | .powerReset v => decide (Config.retentionUv ≤ v)
  | .supplyCollapse v => decide (v < Config.collapseUv)
  | .pinReset n => decide (Config.resetLowCycles ≤ n)
  | .startSequence v r => decide (Config.releaseUv < v) && (r == .high)
  | .optionLoad => true
  | .clockStart _ => true
  | .requestTake => true
  | .requestCompletion => true
  | .unknownKind => true
  | .openSession => true
  | .closeSession => true
  | .heartbeat => true
  | .setAttention => true
  | .info => true
  | .acquire => true
  | .release => true
  | .leaveQueue => true
  | .drive => true
  | .lineStatus => true
  | .schedule => true
  | .batch => true
  | .cancel => true
  | .cancelLine => true
  | .queryEntry => true
  | .listEntries => true
  | .subscribe => true
  | .unsubscribe => true
  | .takeCaptures => true
  | .takeNotices => true
  | .readTime => true
  | .claimAuthority => true
  | .yieldAuthority => true
  | .setTime => true
  | .shift => true
  | .armSync => true
  | .disarmSync => true
  | .restoreClock => true
  | .readOptions => true
  | .storeOptions => true
  | .selectActive _ => true
  | .selectCollision _ => true
  | .selectRelease _ _ => true
  | .fetch => true
  | .twoWireWrite _ _ => true
  | .twoWireRead _ _ _ => true
  | .busError _ => true
  | .firstMainEdge => true
  | .statusByteSentWhole b => b != 0#8
  | .supplyFallingBelow1V2 v => decide (v < Config.retentionUv)

end Sys2Proof
end

