-- ==== Sys2Proof/Decode.lean ====
section
/-!
DEFINITION. No row of spec/opcode_table.json gives bits (every row's "fields" is empty), so no word
spells a command.
-/

namespace Sys2Proof

/-- The command a word spells by the table's bits: none, since no row of the table gives any. -/
def decodeTableWord (_nbits _w : Nat) : Option Instr := none

end Sys2Proof
end

