-- ==== Sys2Proof/Machine/State.lean ====
section
/-!
DEFINITION. The state of the WJ8410 as plain data, and the state right after reset. Every field cites
the rule of spec/ that names it; a quantity that is a function of others is computed, not stored
(log 19).
-/

namespace Sys2Proof.Machine

/-! ## Named values -/

/-- UNSET or SET (R4). -/
inductive TimeState where
  | unset | set
  deriving DecidableEq, Repr

/-- The three clock states (R8). -/
inductive ClockState where
  | main | backup | restarting
  deriving DecidableEq, Repr

/-- NOMINAL or DEGRADED (R8). -/
inductive Quality where
  | nominal | degraded
  deriving DecidableEq, Repr

/-- NORMAL or HOLD (R162). -/
inductive SupplyState where
  | normal | hold
  deriving DecidableEq, Repr

/-- The direction of a step (R5, R24). -/
inductive StepDirection where
  | none | forward | backward
  deriving DecidableEq, Repr

/-- An edge of an input or of SYNC (R27, R99). -/
inductive EdgeKind where
  | rise | fall
  deriving DecidableEq, Repr

/-- The edge choice of a subscription (R103). -/
inductive EdgeChoice where
  | rise | fall | both
  deriving DecidableEq, Repr

/-- The attention mask (R112). -/
inductive AttentionMask where
  | none | notices | captures | both
  deriving DecidableEq, Repr

/-- The level of an event line (R33). -/
inductive Level where
  | low | high | float
  deriving DecidableEq, Repr

/-- The drive mode of a line (R33). -/
inductive DriveMode where
  | pushPull | openDrain
  deriving DecidableEq, Repr

/-- What the pin of a line does (R34). -/
inductive PinDrive where
  | drivenLow | drivenHigh | notDriven
  deriving DecidableEq, Repr

/-- What an occurrence does to the line; PULSE carries its level and width (R55). -/
inductive Action where
  | setHigh | setLow | toggle
  | pulse (level : PinLevel) (width : BitVec 16)
  | release
  deriving DecidableEq, Repr

/-- The late policy of an entry (R55). -/
inductive LatePolicy where
  | fireLate | skip | withdraw
  deriving DecidableEq, Repr

/-- When FIRED notices are posted for an entry (R55). -/
inductive Notify where
  | none | each | last
  deriving DecidableEq, Repr

/-- A repeat count: occurrences remaining, or UNLIMITED (R55). -/
inductive RepeatCount where
  | unlimited
  | times (n : Nat)
  deriving DecidableEq, Repr

/-- The outcome of an occurrence or of a late resolution (R88). -/
inductive FireOutcome where
  | done | ineffective | guardSkipped | lateFired | lateSkipped
  deriving DecidableEq, Repr

/-- Why an entry was withdrawn (R124). -/
inductive WithdrawReason where
  | late | strict
  deriving DecidableEq, Repr

/-- The detail of a CLOCK notice (R124). -/
inductive ClockDetail where
  | backup | main | restoreFailed
  deriving DecidableEq, Repr

/-- The detail of a SUPPLY notice (R124). -/
inductive SupplyDetail where
  | holdEntered | holdLeft
  deriving DecidableEq, Repr

/-- The detail of a SYNC notice (R124). -/
inductive SyncDetail where
  | loaded | refusedRange | cancelled
  deriving DecidableEq, Repr

/-- The two nonvolatile copies (R171). -/
inductive CopyName where
  | a | b
  deriving DecidableEq, Repr

/-- The eight kinds of notice (R124). -/
inductive NoticeKind where
  | granted | fired | withdrawn | clock | supply | shifted | sync | store
  deriving DecidableEq, Repr

/-- The detail of a notice, by its kind (R124). -/
inductive NoticeDetail where
  | granted
  | fired (outcome : FireOutcome) (remaining : RepeatCount) (last : Bool)
  | withdrawn (reason : WithdrawReason)
  | clock (detail : ClockDetail)
  | supply (detail : SupplyDetail)
  | shifted (direction : StepDirection) (magnitude : BitVec 32)
  | sync (detail : SyncDetail)
  | store (verified : Bool) (copy : CopyName)
  deriving DecidableEq, Repr

/-- The statuses of a response (R140, R141; codes in R179). -/
inductive Status where
  | ok | queued | already | pending | noResponse
  | notOpen | disabled | invalid | unknownKind | notHolder | held | waitFull | tooSoon | tooFar
  | conflict | noSpace | notFound | noAuthority | range | degraded | hold | busy | invalidState
  deriving DecidableEq, Repr

/-- The cause of the last reset (R177). -/
inductive ResetCause where
  | power | supply | pin
  deriving DecidableEq, Repr

/-- Where the working options came from (R172). -/
inductive OptionStatus where
  | copyA | copyB | defaults
  deriving DecidableEq, Repr

/-- The three hold thresholds (R162). -/
inductive HoldThreshold where
  | v280 | v295 | v310
  deriving DecidableEq, Repr

/-- The place of the device in the start sequence (R177, R178). -/
inductive Phase where
  /-- Held in reset. -/
  | heldInReset
  /-- Step 1 taken, the option load comes next. -/
  | beforeOptionLoad
  /-- Steps 2 and 3 taken, clock start is in progress. -/
  | beforeClockStart
  /-- Ports ready: the counts advance. -/
  | running
  deriving DecidableEq, Repr

/-! ## Records -/

/-- The lease of a HELD line: its holder and the park level it named (R33, R38). -/
structure Lease where
  client : ClientId
  park : Level
  deriving DecidableEq, Repr

/-- A waiter of a wait list (R33). -/
structure Waiter where
  client : ClientId
  park : Level
  deriving DecidableEq, Repr

/-- A pulse in flight (R47). -/
structure Pulse where
  endAt : Count
  returnLevel : Level
  deriving DecidableEq, Repr

/-- The record of one event line (R33). The line is FREE exactly when it has no lease. -/
structure Line where
  lease : Option Lease
  level : Level
  pulse : Option Pulse
  waiters : List Waiter
  deriving DecidableEq, Repr

/-- The repeat of an entry (R55). -/
structure Repeat where
  period : BitVec 32
  count : RepeatCount
  deriving DecidableEq, Repr

/-- The guard of an entry (R55). -/
structure Guard where
  input : InputId
  level : PinLevel
  deriving DecidableEq, Repr

/-- An entry's fields as they are booked (R55, R60). -/
structure Booking where
  line : LineId
  due : Count
  action : Action
  rep : Option Repeat
  guard : Option Guard
  late : LatePolicy
  strict : Bool
  notify : Notify
  tag : BitVec 16
  deriving DecidableEq, Repr

/-- An entry of the calendar (R55): its handle, its owner and its fields. -/
structure Entry where
  handle : Handle
  owner : ClientId
  body : Booking
  deriving DecidableEq, Repr

/-- What the capture unit latches when a change is first seen (R99). -/
structure Latch where
  run : Count
  stamp : Count
  timeState : TimeState
  quality : Quality
  deriving DecidableEq, Repr

/-- The state of one capture input (R98). -/
structure Input where
  level : PinLevel
  pending : Option Latch
  sequence : BitVec 16
  deriving DecidableEq, Repr

/-- The state of the SYNC filter (R27). -/
structure SyncFilter where
  level : PinLevel
  pending : Option Count
  deriving DecidableEq, Repr

/-- A record of a capture queue (R107). -/
inductive CaptureRecord where
  | real (input : InputId) (edge : EdgeKind) (stamp : Count) (sequence : BitVec 16)
      (unset : Bool) (degraded : Bool)
  | gap (lost : Nat)
  deriving DecidableEq, Repr

/-- A notice record (R124). -/
structure Notice where
  kind : NoticeKind
  subject : BitVec 16
  detail : NoticeDetail
  tag : BitVec 16
  first : Count
  repeats : Nat
  deriving DecidableEq, Repr

/-- What an OPEN session holds (R112). -/
structure SessionData where
  period : Nat
  deadline : Count
  mask : AttentionMask
  deriving DecidableEq, Repr

/-- The session state; the period, the deadline and the mask have a value while OPEN (R112). -/
inductive Session where
  | closed
  | lapsed
  | opened (data : SessionData)
  deriving DecidableEq, Repr

/-- A good request frame; its length and checksum have been checked at the port (R132). -/
structure Frame where
  kind : Byte
  sequence : Byte
  params : List Byte
  deriving DecidableEq, Repr

/-- A stored response: status, result and client flags (R141, R142). -/
structure Response where
  status : Status
  result : List Byte
  flags : Byte
  deriving DecidableEq, Repr

/-- A response slot (R141). -/
inductive ResponseSlot where
  | empty
  | pending (sequence : Byte) (kind : Byte)
  | done (sequence : Byte) (kind : Byte) (response : Response)
  deriving DecidableEq, Repr

/-- The three since-last marks of a client's port (R152). -/
structure Marks where
  collided : Bool
  frameErr : Bool
  discarded : Bool
  deriving DecidableEq, Repr

/-- One client: its record, queues, subscriptions, slots and marks. -/
structure Client where
  session : Session
  lost : Bool
  notices : List Notice
  captures : List CaptureRecord
  subs : Vector (Option EdgeChoice) 4
  request : Option Frame
  response : ResponseSlot
  marks : Marks
  deriving DecidableEq, Repr

/-- The proving of the main oscillator in clock start (R14). -/
structure Proving where
  /-- Backup cycles left of the 10 ms. -/
  left : Nat
  /-- An edge has come, from which good cycles are counted. -/
  edgeSeen : Bool
  /-- Consecutive good main cycles. -/
  good : Nat
  deriving DecidableEq, Repr

/-- The armed sync load (R18). -/
structure ArmedLoad where
  value : Count
  edge : EdgeKind
  deriving DecidableEq, Repr

/-- The request the engine holds, and what its execution yielded (R134). -/
structure EngineJob where
  client : ClientId
  frame : Frame
  takenAt : Count
  outcome : Option (Status × List Byte)
  deriving DecidableEq, Repr

/-- A four-wire transaction in progress (R150, R151, R154). -/
structure FourWireTransaction where
  client : ClientId
  bits : List Bool
  status : Byte
  response : Option (List Byte)
  deriving DecidableEq, Repr

/-- The state of the four-wire port (R150). NOT_READY says whether SDO stays released until both
selects are inactive: after a collision, or after a reset that ended a transaction (R149, R161). -/
inductive FourWirePort where
  | notReady (released : Bool)
  | idle
  | active (transaction : FourWireTransaction)
  | void
  deriving DecidableEq, Repr

/-- The state of the two-wire port (R156), with the address byte after a START (R159). NOT_READY
says whether a transaction is in progress on the bus (R161). -/
inductive TwoWirePort where
  | notReady (busy : Bool)
  | idle
  | address
  | write (client : ClientId) (bytes : List Byte) (placed : Bool)
  | read (client : ClientId) (status : Byte) (frame : List Byte) (bits : Nat) (ended : Bool)
  | ignoring
  deriving DecidableEq, Repr

/-- The working options (R170). -/
structure Options where
  address2 : Byte
  address3 : Byte
  enabled : Vector Bool 4
  shares : Vector Nat 4
  idle : Vector Level 8
  drive : Vector DriveMode 8
  filters : Vector Nat 4
  syncFilter : Nat
  threshold : HoldThreshold
  startClock : Oscillator
  deriving DecidableEq, Repr

/-- The default image (R170). -/
def Options.default : Options where
  address2 := 0x3A
  address3 := 0x3B
  enabled := Vector.replicate 4 true
  shares := Vector.replicate 4 16
  idle := Vector.replicate 8 .float
  drive := Vector.replicate 8 .pushPull
  filters := Vector.replicate 4 4
  syncFilter := 4
  threshold := .v295
  startClock := .main

/-- A copy record (R171). -/
structure CopyRecord where
  good : Bool
  generation : BitVec 16
  deriving DecidableEq, Repr

/-- The store in progress (R173). -/
structure StoreJob where
  requester : ClientId
  target : CopyName
  generation : BitVec 16
  image : List Byte
  acceptedAt : Count
  deriving DecidableEq, Repr

/-! ## The state -/

/-- The whole device. -/
structure State where
  /-- The timebase count (R2). -/
  timebase : Count
  /-- The run count (R3). -/
  run : Count
  /-- The time state (R4). -/
  timeState : TimeState
  /-- The divider (R1). -/
  divider : Fin 8
  /-- The clock state; none until clock start ends (R8). -/
  clock : Option ClockState
  /-- The restart progress (R8, R12). -/
  restartProgress : Nat
  /-- The backup cycles left of the start window, while it applies (R11, R12). -/
  startWindow : Option Nat
  /-- Backup cycles since the last main edge, while the main oscillator is watched; 4 are a missing edge
  (R9). -/
  missingCycles : Nat
  /-- The proving of the main oscillator, during clock start (R14). -/
  proving : Option Proving
  /-- The authority holder (R18). -/
  authority : Option ClientId
  /-- The armed sync load (R18). -/
  armed : Option ArmedLoad
  /-- The SYNC filter (R27). -/
  sync : SyncFilter
  /-- The capture inputs (R98). -/
  inputs : Vector Input 4
  /-- The first sample after clock start has been taken (R27, R98). -/
  sampled : Bool
  /-- The levels of IN0..IN3 at the last sample (log 18). -/
  rawInputs : Vector PinLevel 4
  /-- The level of SYNC at the last sample (log 18). -/
  rawSync : PinLevel
  /-- The event lines (R33). -/
  lines : Vector Line 8
  /-- The slots of the calendar (R54). -/
  slots : Vector (Option Entry) 64
  /-- The use counts of the slots (R54, R57). -/
  useCounts : Vector (BitVec 10) 64
  /-- The clients (R112, R103, R108, R125, R133, R141, R152). -/
  clients : Vector Client 4
  /-- The request the engine holds (R134). -/
  engine : Option EngineJob
  /-- The round-robin pointer (R135). -/
  pointer : ClientId
  /-- The client whose slot the free engine has chosen (R135). -/
  choice : Option ClientId
  /-- The four-wire port (R150). -/
  fourWire : FourWirePort
  /-- SELA is active. -/
  selA : Bool
  /-- SELB is active. -/
  selB : Bool
  /-- The two-wire port (R156). -/
  twoWire : TwoWirePort
  /-- The device gives the acknowledge of the byte just received (R156), until the next START or STOP
  (log 30). -/
  sdaAck : Bool
  /-- The supply level in microvolts (R162). -/
  supplyUv : Nat
  /-- The supply state (R162). -/
  supplyState : SupplyState
  /-- The hold filter (R162). -/
  holdFilter : Option Count
  /-- The power-up flag (R168). -/
  powerUpFlag : Bool
  /-- The collapse latch (R168). -/
  collapseLatch : Bool
  /-- RESETn (R177). -/
  resetn : PinLevel
  /-- The place in the start sequence (R178). -/
  phase : Phase
  /-- The last reset cause (R168, R177). -/
  lastReset : ResetCause
  /-- The working options (R170). -/
  options : Options
  /-- The option status (R172). -/
  optionStatus : OptionStatus
  /-- Copy A, nonvolatile (R171). -/
  copyA : List Byte
  /-- Copy B, nonvolatile (R171). -/
  copyB : List Byte
  /-- The copy record of A (R171). -/
  recordA : CopyRecord
  /-- The copy record of B (R171). -/
  recordB : CopyRecord
  /-- The store in progress (R173). -/
  store : Option StoreJob
  /-- The model's own counter, to which the free value is applied (log 7). -/
  freeCount : Nat
  /-- The commands that are waiting, first in first out. -/
  pending : List Instr
  deriving DecidableEq, Repr

/-- No command of the block stops it with a fault: the spec names none (log 1). -/
inductive Fault where
  deriving DecidableEq, Repr

/-- Why a command is refused. -/
inductive Refusal where
  /-- Raised by an arm of exec that has no meaning yet, with the row's mnemonic; safe. No arm raises
  it: every row has its meaning. -/
  | notModelled (mnemonic : String)
  deriving DecidableEq, Repr

/-! ## Reset -/

/-- A line after reset (R33). -/
def Line.reset : Line := { lease := none, level := .float, pulse := none, waiters := [] }

/-- A capture input after reset (R98). -/
def Input.reset : Input := { level := .low, pending := none, sequence := 0 }

/-- Marks after reset (R152). -/
def Marks.clear : Marks := { collided := false, frameErr := false, discarded := false }

/-- A client after reset (R103, R108, R112, R125, R133, R141, R152). -/
def Client.reset : Client where
  session := .closed
  lost := false
  notices := []
  captures := []
  subs := Vector.replicate 4 none
  request := none
  response := .empty
  marks := .clear

/-- The machine right after reset: a POWER reset that is still held (R177), with every block at its
reset state. Values the spec does not give are named in log 4, log 5, log 6 and log 18. -/
def State.reset : State where
  timebase := 0
  run := 0
  timeState := .unset
  divider := 0
  clock := none
  restartProgress := 0
  startWindow := none
  missingCycles := 0
  proving := none
  authority := none
  armed := none
  sync := { level := .low, pending := none }
  inputs := Vector.replicate 4 .reset
  sampled := false
  rawInputs := Vector.replicate 4 .low
  rawSync := .low
  lines := Vector.replicate 8 .reset
  slots := Vector.replicate 64 none
  useCounts := Vector.replicate 64 0
  clients := Vector.replicate 4 .reset
  engine := none
  pointer := 3
  choice := none
  fourWire := .notReady false
  selA := false
  selB := false
  twoWire := .notReady false
  sdaAck := false
  supplyUv := 3300000
  supplyState := .normal
  holdFilter := none
  powerUpFlag := true
  collapseLatch := false
  resetn := .high
  phase := .heldInReset
  lastReset := .power
  options := .default
  optionStatus := .defaults
  copyA := List.replicate 32 0xFF
  copyB := List.replicate 32 0xFF
  recordA := { good := false, generation := 0 }
  recordB := { good := false, generation := 0 }
  store := none
  freeCount := 0
  pending := []

end Sys2Proof.Machine
end

