-- ==== Sys2Proof/Machine/Ops.lean ====
section
/-!
DEFINITION. The named operations over the state: access to the clients, lines, inputs and slots; the
comparison of a time with a count; the free value; the notice queues; the capture queues.
-/

namespace Sys2Proof.Machine

/-! ## Times and counts -/

/-- The distance ahead of a time above a count, modulo 2^48 (R6). -/
def distanceAhead (t c : Count) : Nat := (t - c).toNat

/-- A time is ahead of a count; equal counts as ahead (R6). A time that ticks carry more than 2^47 behind
thus reads as ahead (log 29). -/
def isAhead (t c : Count) : Bool := decide (distanceAhead t c < Config.halfRange)

/-- A time is behind a count (R6). -/
def isBehind (t c : Count) : Bool := !isAhead t c

/-- The signed distance of a time from a count (R59, R66). -/
def signedDistance (t c : Count) : Int :=
  if isAhead t c then (distanceAhead t c : Int) else -(distanceAhead c t : Int)

/-- The run count has advanced at least `n` ticks beyond a latched value. -/
def hasAdvanced (run latched : Count) (n : Nat) : Bool := decide (n ≤ distanceAhead run latched)

/-- A step's direction and size, from the count it replaces to the new one (R5). -/
def stepOf (old new : Count) : StepDirection × Nat :=
  let d := distanceAhead new old
  if d = 0 then (.none, 0)
  else if d < Config.halfRange then (.forward, d)
  else (.backward, 2 ^ 48 - d)

/-! ## Accessors -/

/-- A vector from its values, place by place. -/
def tabulate {α : Type} (n : Nat) (f : Fin n → α) : Vector α n :=
  ⟨⟨(List.finRange n).map f⟩, by simp⟩

/-- The record of one client. -/
def State.client (s : State) (c : ClientId) : Client := s.clients[c.val]

/-- Replace the record of one client. -/
def State.setClient (s : State) (c : ClientId) (r : Client) : State :=
  { s with clients := s.clients.set c.val r }

/-- Change the record of one client. -/
def State.modifyClient (s : State) (c : ClientId) (f : Client → Client) : State :=
  s.setClient c (f (s.client c))

/-- The record of one line. -/
def State.line (s : State) (l : LineId) : Line := s.lines[l.val]

/-- Replace the record of one line. -/
def State.setLine (s : State) (l : LineId) (r : Line) : State :=
  { s with lines := s.lines.set l.val r }

/-- One capture input. -/
def State.input (s : State) (i : InputId) : Input := s.inputs[i.val]

/-- Replace one capture input. -/
def State.setInput (s : State) (i : InputId) (r : Input) : State :=
  { s with inputs := s.inputs.set i.val r }

/-- What a slot of the calendar holds. -/
def State.slot (s : State) (k : SlotId) : Option Entry := s.slots[k.val]

/-- Fill or empty a slot of the calendar; its use count is kept (R68). -/
def State.setSlot (s : State) (k : SlotId) (e : Option Entry) : State :=
  { s with slots := s.slots.set k.val e }

/-- The use count of a slot (R57). -/
def State.useCount (s : State) (k : SlotId) : BitVec 10 := s.useCounts[k.val]

/-- All clients, lines, inputs and slots, in order of number. -/
def allClients : List ClientId := List.finRange 4
/-- EL0 to EL7. -/
def allLines : List LineId := List.finRange 8
/-- IN0 to IN3. -/
def allInputs : List InputId := List.finRange 4
/-- Slots 0 to 63. -/
def allSlots : List SlotId := List.finRange 64

/-- The open session's data of a client, if it is OPEN (R112). -/
def Session.data? : Session → Option SessionData
  | .opened d => some d
  | .closed => none
  | .lapsed => none

/-- The client is OPEN (R113). -/
def Client.isOpen (r : Client) : Bool := r.session.data?.isSome

/-- The client is OPEN (R113). -/
def State.isOpen (s : State) (c : ClientId) : Bool := (s.client c).isOpen

/-- The client is enabled in the working options (R112). -/
def State.isEnabled (s : State) (c : ClientId) : Bool := s.options.enabled[c.val]

/-- The client's share of the calendar (R54). -/
def State.share (s : State) (c : ClientId) : Nat := s.options.shares[c.val]

/-- The idle level of a line (R33). -/
def State.idleLevel (s : State) (l : LineId) : Level := s.options.idle[l.val]

/-- The drive mode of a line (R33). -/
def State.driveMode (s : State) (l : LineId) : DriveMode := s.options.drive[l.val]

/-- The filter setting of an input (R98). -/
def State.filterTicks (s : State) (i : InputId) : Nat := s.options.filters[i.val]

/-- The clock quality: NOMINAL in MAIN, DEGRADED in BACKUP and RESTARTING (R8). Before clock start
has ended no event reads it (log 20). -/
def State.quality (s : State) : Quality :=
  match s.clock with
  | some .main => .nominal
  | some .backup => .degraded
  | some .restarting => .degraded
  | none => .degraded

/-- The oscillator that drives the tick in a clock state (R8). -/
def ClockState.tickSource : ClockState → Oscillator
  | .main => .main
  | .backup => .backup
  | .restarting => .backup

/-- Whether the main oscillator runs in a clock state (R8). -/
def ClockState.mainRunning : ClockState → Bool
  | .main => true
  | .backup => false
  | .restarting => true

/-- The entry count of a client: the entries it owns (R54, R58). -/
def State.entryCount (s : State) (c : ClientId) : Nat :=
  s.slots.toList.countP fun o => o.any fun e => e.owner == c

/-- The entries held by all clients (R58). -/
def State.totalEntries (s : State) : Nat := s.slots.toList.countP Option.isSome

/-! ## The free value -/

/-- `n` free values have been used (log 7). -/
def State.useFree (s : State) (n : Nat) : State := { s with freeCount := s.freeCount + n }

/-- A free Bool (log 7). -/
def freeBool (n : Nat) : Bool := Config.freeNat n % 2 == 0

/-- `n` free bytes (log 7). -/
def freeBytes (start n : Nat) : List Byte :=
  (List.range n).map fun k => BitVec.ofNat 8 (Config.freeNat (start + k))

/-- Put an element into a list at a place. -/
def insertAt {α : Type} (x : α) : List α → Nat → List α
  | [], _ => [x]
  | y :: ys, 0 => x :: y :: ys
  | y :: ys, k + 1 => y :: insertAt x ys k

/-- A list in an order that the free value decides (log 2, log 22): any order of the list may come
out. -/
def freeOrder {α : Type} (start : Nat) : List α → List α
  | [] => []
  | x :: xs => insertAt x (freeOrder (start + 1) xs) (Config.freeNat start % (xs.length + 1))

/-! ## Notices -/

/-- A record with this key (R124). -/
def Notice.hasKey (kind : NoticeKind) (subject : BitVec 16) (n : Notice) : Bool :=
  n.kind == kind && n.subject == subject

/-- A posting into one queue: merged into the record with its key, appended while fewer than 12 are
held, or lost (R126). The Bool says that it was lost. -/
def postInto (run : Count) (kind : NoticeKind) (subject : BitVec 16) (detail : NoticeDetail)
    (tag : BitVec 16) (q : List Notice) : List Notice × Bool :=
  if q.any (Notice.hasKey kind subject) then
    (q.map fun n =>
      if n.hasKey kind subject then
        { n with repeats := min (n.repeats + 1) 255, detail := detail, tag := tag }
      else n, false)
  else if q.length < Config.noticeCapacity then
    (q ++ [{ kind, subject, detail, tag, first := run, repeats := 1 }], false)
  else (q, true)

/-- Post a notice to one client, if it is OPEN (R126, R127). -/
def postNotice (c : ClientId) (kind : NoticeKind) (subject : BitVec 16) (detail : NoticeDetail)
    (tag : BitVec 16) (s : State) : State :=
  if s.isOpen c then
    s.modifyClient c fun r =>
      let p := postInto s.run kind subject detail tag r.notices
      { r with notices := p.1, lost := r.lost || p.2 }
  else s

/-- Post a notice with subject 0 and tag 0 to every OPEN client (R126). -/
def postAll (kind : NoticeKind) (detail : NoticeDetail) (s : State) : State :=
  allClients.foldl (fun s c => postNotice c kind 0 detail 0 s) s

/-! ## Capture queues -/

/-- Place a real record in a capture queue, by what the queue holds (R108). -/
def placeCapture (r : CaptureRecord) (q : List CaptureRecord) : List CaptureRecord :=
  if q.length < Config.captureRoom then q ++ [r]
  else
    match q.getLast? with
    | some (.gap n) => q.dropLast ++ [.gap (min (n + 1) 65535)]
    | _ => q ++ [.gap 1]

/-- The edge choice of a subscription includes an edge kind (R101). -/
def EdgeChoice.includes : EdgeChoice → EdgeKind → Bool
  | .rise, .rise => true
  | .rise, .fall => false
  | .fall, .rise => false
  | .fall, .fall => true
  | .both, _ => true

/-- A gap record (R107). -/
def CaptureRecord.isGap : CaptureRecord → Bool
  | .gap _ => true
  | .real .. => false

end Sys2Proof.Machine
end

