-- ==== Sys2Proof/Machine/Operands.lean ====
section
/-!
DEFINITION. The bytes that cross the ports: codes (R179), checksums (R180), frames (R132, R142), the
parameters of every request, and the records and results the device sends (12_layouts_pins_and_ratings.md).
-/

namespace Sys2Proof.Machine

/-! ## Numbers and bytes -/

/-- An unsigned number from its bytes, most significant first. -/
def beNat (bs : List Byte) : Nat := bs.foldl (fun acc b => acc * 256 + b.toNat) 0

/-- The low `w` bytes of a number, most significant first. -/
def beBytes : Nat → Nat → List Byte
  | 0, _ => []
  | w + 1, n => BitVec.ofNat 8 (n / 256 ^ w) :: beBytes w n

/-- A byte for a number below 256. -/
def byteOf (n : Nat) : Byte := BitVec.ofNat 8 n

/-- Bit `k` of a byte. -/
def bitOf (b : Byte) (k : Nat) : Bool := b.getLsbD k

/-- A byte with only bit `k` set, or 0. -/
def flagBit (k : Nat) (b : Bool) : Byte := if b then BitVec.ofNat 8 (2 ^ k) else 0

/-- Eight bits, first bit most significant, make one byte (00_scope.md, Byte order). -/
def byteOfBits (bs : List Bool) : Byte :=
  BitVec.ofNat 8 (bs.foldl (fun acc b => acc * 2 + b.toNat) 0)

/-- The whole bytes of a run of bits; a part-byte at the end is dropped. -/
def wholeBytes : List Bool → List Byte
  | a :: b :: c :: d :: e :: f :: g :: h :: rest =>
    byteOfBits [a, b, c, d, e, f, g, h] :: wholeBytes rest
  | _ => []

/-! ## Checksums (R180) -/

/-- One shift of the CRC-8 register. -/
def crc8Shift (r : Byte) : Byte := if r.msb then (r <<< 1) ^^^ 0x07#8 else r <<< 1

/-- The CRC-8 register after one byte. -/
def crc8Byte (r b : Byte) : Byte :=
  crc8Shift (crc8Shift (crc8Shift (crc8Shift (crc8Shift (crc8Shift (crc8Shift (crc8Shift (r ^^^ b))))))))

/-- The frame checksum: CRC-8, polynomial 07h, register from 00h. -/
def crc8 (bs : List Byte) : Byte := bs.foldl crc8Byte 0

/-- One shift of the CRC-16 register. -/
def crc16Shift (r : BitVec 16) : BitVec 16 := if r.msb then (r <<< 1) ^^^ 0x1021#16 else r <<< 1

/-- The CRC-16 register after one byte. -/
def crc16Byte (r : BitVec 16) (b : Byte) : BitVec 16 :=
  crc16Shift (crc16Shift (crc16Shift (crc16Shift (crc16Shift (crc16Shift (crc16Shift (crc16Shift
    (r ^^^ (b.setWidth 16 <<< 8)))))))))

/-- The option copy checksum: CRC-16, polynomial 1021h, register from FFFFh. -/
def crc16 (bs : List Byte) : BitVec 16 := bs.foldl crc16Byte 0xFFFF#16

/-! ## Codes (R179) -/

/-- The code of a line level (R179). -/
def levelCode : Level → Byte
  | .low => 0x00 | .high => 0x01 | .float => 0x02
/-- The code of an input level (R179). -/
def pinLevelCode : PinLevel → Byte
  | .low => 0x00 | .high => 0x01
/-- The code of a drive mode (R179). -/
def driveModeCode : DriveMode → Byte
  | .pushPull => 0x00 | .openDrain => 0x01
/-- The code of a yes/no flag; also FREE and HELD (R179). -/
def flagCode (b : Bool) : Byte := if b then 0x01 else 0x00
/-- The code of an edge kind (R179). -/
def edgeKindCode : EdgeKind → Byte
  | .rise => 0x01 | .fall => 0x02
/-- The code of an edge choice (R179). -/
def edgeChoiceCode : EdgeChoice → Byte
  | .rise => 0x01 | .fall => 0x02 | .both => 0x03
/-- The code of an attention mask (R179). -/
def maskCode : AttentionMask → Byte
  | .none => 0x00 | .notices => 0x01 | .captures => 0x02 | .both => 0x03
/-- The code of a step direction (R179). -/
def directionCode : StepDirection → Byte
  | .none => 0x00 | .forward => 0x01 | .backward => 0x02
/-- The code of an action (R179). -/
def actionCode : Action → Byte
  | .setHigh => 0x00 | .setLow => 0x01 | .toggle => 0x02 | .pulse _ _ => 0x03 | .release => 0x04
/-- The code of a late policy (R179). -/
def latePolicyCode : LatePolicy → Nat
  | .fireLate => 0 | .skip => 1 | .withdraw => 2
/-- The code of a notify setting (R179). -/
def notifyCode : Notify → Nat
  | .none => 0 | .each => 1 | .last => 2
/-- The code of a session state (R179). -/
def sessionCode : Session → Byte
  | .closed => 0x00 | .opened _ => 0x01 | .lapsed => 0x02
/-- The clock state; while clock start is in progress no request is executed and none is sent
(log 20). -/
def clockCode : Option ClockState → Byte
  | some .main => 0x00 | some .backup => 0x01 | some .restarting => 0x02 | none => 0x01
/-- The code of the time state (R179). -/
def timeStateCode : TimeState → Byte
  | .unset => 0x00 | .set => 0x01
/-- The code of the supply state (R179). -/
def supplyStateCode : SupplyState → Byte
  | .normal => 0x00 | .hold => 0x01
/-- The code of a reset cause (R179). -/
def resetCauseCode : ResetCause → Byte
  | .power => 0x00 | .supply => 0x01 | .pin => 0x02
/-- The code of the option status (R179). -/
def optionStatusCode : OptionStatus → Byte
  | .copyA => 0x00 | .copyB => 0x01 | .defaults => 0x02
/-- The code of a copy (R179). -/
def copyCode : CopyName → Byte
  | .a => 0x00 | .b => 0x01
/-- The code of an outcome (R179). -/
def outcomeCode : FireOutcome → Byte
  | .done => 0x00 | .ineffective => 0x01 | .guardSkipped => 0x02 | .lateFired => 0x03
  | .lateSkipped => 0x04
/-- A client number as a byte (R179). -/
def clientCode (c : ClientId) : Byte := byteOf c.val
/-- A client, or FFh where there is none to name. -/
def optClientCode : Option ClientId → Byte
  | some c => clientCode c
  | none => 0xFF
/-- A level, or FFh where there is none to name. -/
def optLevelCode : Option Level → Byte
  | some l => levelCode l
  | none => 0xFF

/-- The code of a status (R179). -/
def statusCode : Status → Byte
  | .ok => 0x00 | .queued => 0x01 | .already => 0x02 | .pending => 0x03 | .noResponse => 0x04
  | .notOpen => 0x10 | .disabled => 0x11 | .invalid => 0x12 | .unknownKind => 0x13
  | .notHolder => 0x14 | .held => 0x15 | .waitFull => 0x16 | .tooSoon => 0x17 | .tooFar => 0x18
  | .conflict => 0x19 | .noSpace => 0x1A | .notFound => 0x1B | .noAuthority => 0x1C
  | .range => 0x1D | .degraded => 0x1E | .hold => 0x1F | .busy => 0x20 | .invalidState => 0x21

/-- A line level from its code (R179). -/
def levelOfCode (b : Byte) : Option Level :=
  if b = 0x00 then some .low else if b = 0x01 then some .high else if b = 0x02 then some .float
  else none
/-- A yes/no choice from its code (R179). -/
def yesNoOfCode (b : Byte) : Option Bool :=
  if b = 0x00 then some false else if b = 0x01 then some true else none
/-- An edge kind from its code (R179). -/
def edgeKindOfCode (b : Byte) : Option EdgeKind :=
  if b = 0x01 then some .rise else if b = 0x02 then some .fall else none
/-- An edge choice from its code (R179). -/
def edgeChoiceOfCode (b : Byte) : Option EdgeChoice :=
  if b = 0x01 then some .rise else if b = 0x02 then some .fall else if b = 0x03 then some .both
  else none
/-- An attention mask from its code (R179). -/
def maskOfCode (b : Byte) : Option AttentionMask :=
  if b = 0x00 then some .none else if b = 0x01 then some .notices
  else if b = 0x02 then some .captures else if b = 0x03 then some .both else none
/-- The two directions SHIFT accepts (R25). -/
def shiftDirectionOfCode (b : Byte) : Option StepDirection :=
  if b = 0x01 then some .forward else if b = 0x02 then some .backward else none
/-- A line from its number (R179). -/
def lineOfCode (b : Byte) : Option LineId :=
  if h : b.toNat < 8 then some ⟨b.toNat, h⟩ else none
/-- An input from its number (R179). -/
def inputOfCode (b : Byte) : Option InputId :=
  if h : b.toNat < 4 then some ⟨b.toNat, h⟩ else none
/-- A late policy from its code (R179). -/
def latePolicyOfCode : Nat → Option LatePolicy
  | 0 => some .fireLate | 1 => some .skip | 2 => some .withdraw | _ => none
/-- A notify setting from its code (R179). -/
def notifyOfCode : Nat → Option Notify
  | 0 => some .none | 1 => some .each | 2 => some .last | _ => none

/-! ## Frames -/

/-- The frame that whole bytes spell, if they are good: at least 4, a parameter length of at most 64,
exactly 4 + n of them, and the checksum right (R132, R153). -/
def parseFrame (bytes : List Byte) : Option Frame :=
  match bytes with
  | kind :: sequence :: n :: rest =>
    if n.toNat ≤ 64 && rest.length == n.toNat + 1 && some (crc8 bytes.dropLast) == bytes.getLast? then
      some { kind, sequence, params := rest.take n.toNat }
    else none
  | _ => none

/-- The bytes of a response frame, with its checksum (R142). -/
def responseFrame (sequence : Byte) (status : Status) (result : List Byte) (flags : Byte) :
    List Byte :=
  let body := [sequence, statusCode status, byteOf result.length] ++ result ++ [flags]
  body ++ [crc8 body]

/-! ## Parameters -/

/-- The request carries no parameters (R137). -/
def parseNone : List Byte → Option Unit
  | [] => some ()
  | _ => none

/-- OPEN: keepalive period in milliseconds and mask (R114). -/
def parseOpen : List Byte → Option (Nat × AttentionMask)
  | [p1, p0, m] =>
    let p := beNat [p1, p0]
    if 10 ≤ p && p ≤ 60000 then (maskOfCode m).map fun k => (p, k) else none
  | _ => none

/-- SET_ATTENTION: mask (R119). -/
def parseMask : List Byte → Option AttentionMask
  | [m] => maskOfCode m
  | _ => none

/-- A line (R41, R42, R45, R65). -/
def parseLine : List Byte → Option LineId
  | [l] => lineOfCode l
  | _ => none

/-- ACQUIRE: line, park level and wait choice (R37). -/
def parseAcquire : List Byte → Option (LineId × Level × Bool)
  | [l, p, w] =>
    match lineOfCode l, levelOfCode p, yesNoOfCode w with
    | some l, some p, some w => some (l, p, w)
    | _, _, _ => none
  | _ => none

/-- DRIVE: line and level (R44). -/
def parseDrive : List Byte → Option (LineId × Level)
  | [l, v] =>
    match lineOfCode l, levelOfCode v with
    | some l, some v => some (l, v)
    | _, _ => none
  | _ => none

/-- A handle (R64, R66, R67). -/
def parseHandle : List Byte → Option Handle
  | [h1, h0] => some (BitVec.ofNat 16 (beNat [h1, h0]))
  | _ => none

/-- SUBSCRIBE: input and edge choice (R104). -/
def parseSubscribe : List Byte → Option (InputId × EdgeChoice)
  | [i, e] =>
    match inputOfCode i, edgeChoiceOfCode e with
    | some i, some e => some (i, e)
    | _, _ => none
  | _ => none

/-- UNSUBSCRIBE: input (R105). -/
def parseInput : List Byte → Option InputId
  | [i] => inputOfCode i
  | _ => none

/-- SET_TIME: value (R24). -/
def parseSetTime (bs : List Byte) : Option Count :=
  if bs.length = 6 then some (BitVec.ofNat 48 (beNat bs)) else none

/-- SHIFT: direction and magnitude; a magnitude of 0 is refused (R25). -/
def parseShift : List Byte → Option (StepDirection × BitVec 32)
  | [d, m3, m2, m1, m0] =>
    let m := beNat [m3, m2, m1, m0]
    if m = 0 then none else (shiftDirectionOfCode d).map fun d => (d, BitVec.ofNat 32 m)
  | _ => none

/-- ARM_SYNC: load value and edge (R28). -/
def parseArm : List Byte → Option ArmedLoad
  | [v5, v4, v3, v2, v1, v0, e] =>
    (edgeKindOfCode e).map fun e =>
      { value := BitVec.ofNat 48 (beNat [v5, v4, v3, v2, v1, v0]), edge := e }
  | _ => none

/-! ## Entry descriptors -/

/-- The length of a descriptor, from its parts byte (12.2). -/
def descriptorLength (parts : Byte) : Nat :=
  12 + (if bitOf parts 0 then 2 else 0) + (if bitOf parts 2 then 6 else 0)
    + (if bitOf parts 3 then 1 else 0)

/-- The action of a descriptor, with its pulse part: present exactly when the action is PULSE, the
width at least 1, and the pulse level bit 0 without it (R56). The rest of the bytes follows. -/
def parseAction (code parts : Byte) (rest : List Byte) : Option (Action × List Byte) :=
  if bitOf parts 0 then
    match rest with
    | w1 :: w0 :: rest =>
      let w := beNat [w1, w0]
      if code = 0x03 && decide (1 ≤ w) then
        some (.pulse (if bitOf parts 1 then .high else .low) (BitVec.ofNat 16 w), rest)
      else none
    | _ => none
  else if bitOf parts 1 then none
  else if code = 0x00 then some (.setHigh, rest)
  else if code = 0x01 then some (.setLow, rest)
  else if code = 0x02 then some (.toggle, rest)
  else if code = 0x04 then some (.release, rest)
  else none

/-- The repeat part: period 100..2^32-1, count 2..65535 or UNLIMITED (R56). -/
def parseRepeat (parts : Byte) (rest : List Byte) : Option (Option Repeat × List Byte) :=
  if bitOf parts 2 then
    match rest with
    | p3 :: p2 :: p1 :: p0 :: c1 :: c0 :: rest =>
      let p := beNat [p3, p2, p1, p0]
      let c := beNat [c1, c0]
      if p < 100 || c = 1 then none
      else some (some { period := BitVec.ofNat 32 p,
                        count := if c = 0 then .unlimited else .times c }, rest)
    | _ => none
  else some (none, rest)

/-- The guard part: input in bits 1..0, level in bit 4, other bits zero (12.2). -/
def parseGuard (parts : Byte) (rest : List Byte) : Option (Option Guard × List Byte) :=
  if bitOf parts 3 then
    match rest with
    | g :: rest =>
      if g &&& 0xEC#8 = 0 then
        some (some { input := ⟨g.toNat % 4, Nat.mod_lt _ (by decide)⟩,
                     level := if bitOf g 4 then .high else .low }, rest)
      else none
    | _ => none
  else some (none, rest)

/-- A PULSE entry with a repeat has a period greater than its pulse width (R56). -/
def pulseFits : Action → Option Repeat → Bool
  | .pulse _ w, some r => decide (w.toNat < r.period.toNat)
  | _, _ => true

/-- A valid entry from its descriptor, which holds exactly its parts (R56, R60). -/
def parseBooking (bytes : List Byte) : Option Booking :=
  match bytes with
  | l :: a :: parts :: policy :: d5 :: d4 :: d3 :: d2 :: d1 :: d0 :: t1 :: t0 :: rest =>
    match lineOfCode l, latePolicyOfCode (policy.toNat % 4), notifyOfCode (policy.toNat / 8 % 4),
        parseAction a parts rest with
    | some line, some late, some notify, some (action, rest) =>
      match parseRepeat parts rest with
      | some (rep, rest) =>
        match parseGuard parts rest with
        | some (guard, []) =>
          if parts &&& 0xF0#8 = 0 && policy &&& 0xE0#8 = 0 && pulseFits action rep then
            some { line, due := BitVec.ofNat 48 (beNat [d5, d4, d3, d2, d1, d0]), action, rep, guard,
                   late, strict := bitOf policy 2, notify,
                   tag := BitVec.ofNat 16 (beNat [t1, t0]) }
          else none
        | _ => none
      | none => none
    | _, _, _, _ => none
  | _ => none

/-- Cut the bytes after a BATCH's member count into its members' descriptors; none where they do not
agree with the members described (R61, log 24). -/
def splitMembers : Nat → List Byte → Option (List (List Byte))
  | 0, [] => some []
  | 0, _ :: _ => none
  | n + 1, bytes =>
    match bytes with
    | _ :: _ :: parts :: _ =>
      let k := descriptorLength parts
      if bytes.length < k then none
      else (splitMembers n (bytes.drop k)).map fun ms => bytes.take k :: ms
    | _ => none

/-- BATCH: the members' descriptors, 1 to 3 of them (R61). -/
def parseBatch : List Byte → Option (List (List Byte))
  | n :: rest => if 1 ≤ n.toNat && n.toNat ≤ 3 then splitMembers n.toNat rest else none
  | [] => none

/-- A repeat count in two bytes; 0000h means UNLIMITED (12.2). -/
def countBytes : RepeatCount → List Byte
  | .unlimited => [0x00, 0x00]
  | .times n => beBytes 2 n

/-- The pulse part of a descriptor. -/
def pulsePart : Action → List Byte
  | .pulse _ w => beBytes 2 w.toNat
  | .setHigh => [] | .setLow => [] | .toggle => [] | .release => []

/-- The pulse bits of a descriptor's parts byte. -/
def pulseBits : Action → Byte
  | .pulse .high _ => 0x03
  | .pulse .low _ => 0x01
  | .setHigh => 0 | .setLow => 0 | .toggle => 0 | .release => 0

/-- The repeat part of a descriptor. -/
def repeatPart : Option Repeat → List Byte
  | some r => beBytes 4 r.period.toNat ++ countBytes r.count
  | none => []

/-- The guard part of a descriptor. -/
def guardPart : Option Guard → List Byte
  | some g => [byteOf g.input.val ||| flagBit 4 (g.level == .high)]
  | none => []

/-- The descriptor of an entry with its present due and repeat count (R66). -/
def bookingBytes (b : Booking) : List Byte :=
  [byteOf b.line.val, actionCode b.action,
    pulseBits b.action ||| flagBit 2 b.rep.isSome ||| flagBit 3 b.guard.isSome,
    byteOf (latePolicyCode b.late) ||| flagBit 2 b.strict ||| byteOf (notifyCode b.notify * 8)]
  ++ beBytes 6 b.due.toNat ++ beBytes 2 b.tag.toNat
  ++ pulsePart b.action ++ repeatPart b.rep ++ guardPart b.guard

/-! ## Records -/

/-- A capture record in its 9 bytes (12.3). -/
def captureBytes : CaptureRecord → List Byte
  | .real i e stamp seq unset degraded =>
    [byteOf i.val ||| flagBit 2 (e == .rise) ||| flagBit 3 unset ||| flagBit 4 degraded]
      ++ beBytes 6 stamp.toNat ++ beBytes 2 seq.toNat
  | .gap lost => [0x80] ++ beBytes 2 lost ++ List.replicate 6 0x00

/-- The kind code of a notice (12.3). -/
def noticeKindCode : NoticeKind → Byte
  | .granted => 1 | .fired => 2 | .withdrawn => 3 | .clock => 4 | .supply => 5 | .shifted => 6
  | .sync => 7 | .store => 8

/-- The remaining count of a FIRED detail; FFFFh means UNLIMITED (12.3). -/
def remainingBytes : RepeatCount → List Byte
  | .unlimited => [0xFF, 0xFF]
  | .times n => beBytes 2 n

/-- The five detail bytes of a notice (12.3). -/
def detailBytes : NoticeDetail → List Byte
  | .granted => [0, 0, 0, 0, 0]
  | .fired o r last => [outcomeCode o] ++ remainingBytes r ++ [flagCode last, 0]
  | .withdrawn .late => [0x00, 0, 0, 0, 0]
  | .withdrawn .strict => [0x01, 0, 0, 0, 0]
  | .clock .backup => [0x00, 0, 0, 0, 0]
  | .clock .main => [0x01, 0, 0, 0, 0]
  | .clock .restoreFailed => [0x02, 0, 0, 0, 0]
  | .supply .holdEntered => [0x00, 0, 0, 0, 0]
  | .supply .holdLeft => [0x01, 0, 0, 0, 0]
  | .shifted d m => [directionCode d] ++ beBytes 4 m.toNat
  | .sync .loaded => [0x00, 0, 0, 0, 0]
  | .sync .refusedRange => [0x01, 0, 0, 0, 0]
  | .sync .cancelled => [0x02, 0, 0, 0, 0]
  | .store verified copy => [if verified then 0x00 else 0x01, copyCode copy, 0, 0, 0]

/-- A notice record in its 17 bytes (12.3). -/
def noticeBytes (n : Notice) : List Byte :=
  [noticeKindCode n.kind] ++ beBytes 2 n.subject.toNat ++ detailBytes n.detail
    ++ beBytes 2 n.tag.toNat ++ beBytes 6 n.first.toNat ++ [byteOf n.repeats]

/-! ## The option image and the copies -/

/-- The code of a hold threshold, bits 5..4 of the settings byte (12.4). -/
def thresholdCode : HoldThreshold → Nat
  | .v280 => 0 | .v295 => 1 | .v310 => 2

/-- A hold threshold from its code; 11 is out of range. -/
def thresholdOfCode : Nat → Option HoldThreshold
  | 0 => some .v280 | 1 => some .v295 | 2 => some .v310 | _ => none

/-- The hold threshold in microvolts (R162). -/
def HoldThreshold.microvolts : HoldThreshold → Nat
  | .v280 => 2800000 | .v295 => 2950000 | .v310 => 3100000

/-- The 28 bytes of a field image (12.4). -/
def imageBytes (o : Options) : List Byte :=
  [o.address2, o.address3,
    flagBit 0 o.enabled[0] ||| flagBit 1 o.enabled[1] ||| flagBit 2 o.enabled[2]
      ||| flagBit 3 o.enabled[3] ||| byteOf (thresholdCode o.threshold * 16)
      ||| flagBit 6 (o.startClock == .backup)]
  ++ o.shares.toList.map byteOf
  ++ allLines.map (fun l => levelCode o.idle[l.val] ||| flagBit 4 (o.drive[l.val] == .openDrain))
  ++ o.filters.toList.map byteOf
  ++ [byteOf o.syncFilter] ++ List.replicate 8 0x00

/-- A line byte of an image: level in bits 1..0, drive mode in bit 4, other bits zero (12.4). -/
def parseLineByte (b : Byte) : Option (Level × DriveMode) :=
  if b &&& 0xEC#8 = 0 then
    (levelOfCode (b &&& 0x03#8)).map fun l => (l, if bitOf b 4 then .openDrain else .pushPull)
  else none

/-- The fields of a 28-byte image when every field other than the two addresses lies in its range
(R171, 12.4). -/
def parseImage (bytes : List Byte) : Option Options :=
  match bytes with
  | a2 :: a3 :: set :: s0 :: s1 :: s2 :: s3 :: l0 :: l1 :: l2 :: l3 :: l4 :: l5 :: l6 :: l7
      :: f0 :: f1 :: f2 :: f3 :: fs :: zeros =>
    match thresholdOfCode (set.toNat / 16 % 4), parseLineByte l0, parseLineByte l1,
        parseLineByte l2, parseLineByte l3, parseLineByte l4, parseLineByte l5, parseLineByte l6,
        parseLineByte l7 with
    | some threshold, some p0, some p1, some p2, some p3, some p4, some p5, some p6, some p7 =>
      if !bitOf set 7 && zeros == List.replicate 8 0x00
          && decide (s0.toNat ≤ 64) && decide (s1.toNat ≤ 64) && decide (s2.toNat ≤ 64)
          && decide (s3.toNat ≤ 64) && decide (s0.toNat + s1.toNat + s2.toNat + s3.toNat ≤ 64) then
        some
          { address2 := a2, address3 := a3,
            enabled := #v[bitOf set 0, bitOf set 1, bitOf set 2, bitOf set 3],
            shares := #v[s0.toNat, s1.toNat, s2.toNat, s3.toNat],
            idle := #v[p0.1, p1.1, p2.1, p3.1, p4.1, p5.1, p6.1, p7.1],
            drive := #v[p0.2, p1.2, p2.2, p3.2, p4.2, p5.2, p6.2, p7.2],
            filters := #v[f0.toNat, f1.toNat, f2.toNat, f3.toNat],
            syncFilter := fs.toNat,
            threshold,
            startClock := if bitOf set 6 then .backup else .main }
      else none
    | _, _, _, _, _, _, _, _, _ => none
  | _ => none

/-- The two addresses lie in 08h..77h and differ (R170, R172). -/
def addressesValid (a2 a3 : Byte) : Bool :=
  decide (0x08 ≤ a2.toNat) && decide (a2.toNat ≤ 0x77) && decide (0x08 ≤ a3.toNat)
    && decide (a3.toNat ≤ 0x77) && a2 != a3

/-- The address pair of a loaded image, with the fallback to 3Ah and 3Bh (R172). -/
def withAddressFallback (o : Options) : Options :=
  if addressesValid o.address2 o.address3 then o
  else { o with address2 := 0x3A, address3 := 0x3B }

/-- STORE_OPTIONS: a valid image, its address pair included (R170, R173). -/
def parseStoreImage (bytes : List Byte) : Option (List Byte) :=
  match parseImage bytes with
  | some o => if addressesValid o.address2 o.address3 then some bytes else none
  | none => none

/-- The generation of a copy, bytes 28 and 29 (12.4). -/
def copyGeneration (copy : List Byte) : BitVec 16 :=
  BitVec.ofNat 16 (beNat ((copy.drop 28).take 2))

/-- The checksum of a copy matches (R171, R180). -/
def copyChecksumOk (copy : List Byte) : Bool :=
  copy.length == 32 && crc16 (copy.take 30) == BitVec.ofNat 16 (beNat (copy.drop 30))

/-- A copy is good (R171). -/
def copyGood (copy : List Byte) : Bool :=
  copyChecksumOk copy && copyGeneration copy != 0 && (parseImage (copy.take 28)).isSome

/-- The 32 bytes of a copy that holds an image and a generation (R171). -/
def copyBytes (image : List Byte) (generation : BitVec 16) : List Byte :=
  let body := image ++ beBytes 2 generation.toNat
  body ++ beBytes 2 (crc16 body).toNat

end Sys2Proof.Machine
end

