-- ==== Sys2Proof/Machine/Flags.lean ====
section
/-!
DEFINITION. The flags and levels the device shows: the client flags of a response (R143), the
attention lines (R130), the port status byte (R151), the pins of the event lines (R34), and the
outputs of the two ports (R149, R158, R161).
-/

namespace Sys2Proof.Machine

/-- The client's capture queue holds at least one gap record (R111). -/
def Client.hasGap (r : Client) : Bool := r.captures.any CaptureRecord.isGap

/-- The client flags byte as the conditions stand (R143, 12.2). -/
def clientFlags (c : ClientId) (s : State) : Byte :=
  flagBit 0 (s.client c).lost ||| flagBit 1 (s.client c).hasGap
    ||| flagBit 2 (s.authority == some c) ||| flagBit 3 (s.timeState == .unset)
    ||| flagBit 4 (s.quality == .degraded) ||| flagBit 5 (s.supplyState == .hold)

/-- A mask that includes notices (R130). -/
def AttentionMask.wantsNotices : AttentionMask → Bool
  | .none => false | .notices => true | .captures => false | .both => true

/-- A mask that includes captures (R130). -/
def AttentionMask.wantsCaptures : AttentionMask → Bool
  | .none => false | .notices => false | .captures => true | .both => true

/-- The client's ATTN line is asserted (R130). -/
def Client.attention (r : Client) : Bool :=
  match r.session with
  | .closed => false
  | .lapsed => true
  | .opened d =>
    (d.mask.wantsNotices && !r.notices.isEmpty) || (d.mask.wantsCaptures && !r.captures.isEmpty)
      || r.lost

/-- ATTNn is asserted (R130). -/
def State.attention (s : State) (c : ClientId) : Bool := (s.client c).attention

/-- What the pin of a line does, from its level and drive mode (R34). -/
def pinDrive (level : Level) (mode : DriveMode) : PinDrive :=
  match level, mode with
  | .low, _ => .drivenLow
  | .high, .pushPull => .drivenHigh
  | .high, .openDrain => .notDriven
  | .float, _ => .notDriven

/-- What the pin of one line does (R34). -/
def State.pin (s : State) (l : LineId) : PinDrive := pinDrive (s.line l).level (s.driveMode l)

/-- A response slot is DONE (R151). -/
def ResponseSlot.isDone : ResponseSlot → Bool
  | .done _ _ _ => true
  | .empty => false
  | .pending _ _ => false

/-- The port status byte with its seven flags, once the port is ready (R151, 12.4). -/
def readyStatusByte (c : ClientId) (s : State) : Byte :=
  let r := s.client c
  flagBit 7 r.request.isNone ||| flagBit 6 r.response.isDone ||| flagBit 5 (s.attention c)
    ||| flagBit 4 r.marks.collided ||| flagBit 3 r.marks.frameErr ||| flagBit 2 r.marks.discarded

/-- The status byte of a port that is NOT_READY (R151, R161, 12.4). -/
def notReadyStatusByte : Byte := 0x02

/-- The frame FETCH returns for a client's response slot (R144). -/
def fetchFrame (c : ClientId) (s : State) : List Byte :=
  match (s.client c).response with
  | .done q _ r => responseFrame q r.status r.result r.flags
  | .pending q _ => responseFrame q .pending [] (clientFlags c s)
  | .empty => responseFrame 0 .noResponse [] (clientFlags c s)

/-- SDO is driven (R149, R150, R161). -/
def State.sdoDriven (s : State) : Bool :=
  match s.fourWire with
  | .active _ => true
  | .notReady released => !released && (s.selA || s.selB)
  | .idle => false
  | .void => false

/-- Byte `k` that the device sends on SDO in a transaction: the status byte, then the response frame
of a FETCH, then FFh (R149, R154). -/
def FourWireTransaction.outByte (t : FourWireTransaction) (k : Nat) : Byte :=
  match k with
  | 0 => t.status
  | k + 1 => (t.response.getD []).getD k 0xFF

/-- Byte `k` that the four-wire port sends, where it drives SDO (R149, R161). -/
def State.sdoByte (s : State) (k : Nat) : Option Byte :=
  match s.fourWire with
  | .active t => some (t.outByte k)
  | .notReady _ => if s.sdoDriven then some (if k = 0 then notReadyStatusByte else 0xFF) else none
  | .idle => none
  | .void => none

/-- The bit on SDO once `n` falling edges of SCK have come since the select became active: bytes go most
significant bit first, the first bit of the status byte is there from the select on, and SDO changes after
each falling edge (R149). -/
def State.sdoBit (s : State) (n : Nat) : Option Bool :=
  (s.sdoByte (n / 8)).map fun b => bitOf b (7 - n % 8)

/-- Byte `k` that the two-wire port sends in a read: the status byte, the response frame, then FFh; no byte
after the one for which the master has withheld its acknowledge (R158). -/
def State.sdaByte (s : State) (k : Nat) : Option Byte :=
  match s.twoWire with
  | .read _ status frame bits ended =>
    if ended && decide (bits / 8 ≤ k) then none else some ((status :: frame).getD k 0xFF)
  | .notReady _ => none
  | .idle => none
  | .address => none
  | .write _ _ _ => none
  | .ignoring => none

/-- Bit `n` of a read, most significant bit of each byte first (R156, R158). -/
def State.sdaBit (s : State) (n : Nat) : Option Bool :=
  (s.sdaByte (n / 8)).map fun b => bitOf b (7 - n % 8)

/-- The device drives SDA low: for an acknowledge that it gives, or for a 0 bit that it sends next in a read;
else it leaves SDA undriven (R156). -/
def State.sdaLow (s : State) : Bool :=
  match s.twoWire with
  | .read _ _ _ bits _ => s.sdaAck || s.sdaBit bits == some false
  | .notReady _ => s.sdaAck
  | .idle => s.sdaAck
  | .address => s.sdaAck
  | .write _ _ _ => s.sdaAck
  | .ignoring => s.sdaAck

end Sys2Proof.Machine
end

