-- ==== Sys2Proof/Machine/LineOps.lean ====
section
/-!
DEFINITION. What happens to an event line: a cut, an action, a grant, the end of a lease, and the
parking of the lines (R35, R39, R46 to R50, R53).
-/

namespace Sys2Proof.Machine

/-- A cut: the pulse in flight becomes absent and the line keeps its level (R48). -/
def Line.cut (r : Line) : Line := { r with pulse := none }

/-- An action reaches a line: it cuts a pulse in flight, then decides the level (R46, R47, R84 to
R86). -/
def Line.apply (r : Line) (a : Action) (run : Count) : Line :=
  match a with
  | .setHigh => { r with pulse := none, level := .high }
  | .setLow => { r with pulse := none, level := .low }
  | .release => { r with pulse := none, level := .float }
  | .toggle =>
    { r with
      pulse := none
      level := match r.level with
        | .high => .low
        | .low => .high
        | .float => .float }
  | .pulse v w =>
    { r with
      pulse := some { endAt := run + w.setWidth 48, returnLevel := r.level }
      level := match v with
        | .high => .high
        | .low => .low }

/-- TOGGLE on a FLOAT line, the one action that changes nothing (R85). -/
def Line.ineffective (r : Line) (a : Action) : Bool := a == .toggle && r.level == .float

/-- The holder of a line (R33). -/
def Line.holder (r : Line) : Option ClientId := r.lease.map Lease.client

/-- The client holds the line. -/
def Line.heldBy (r : Line) (c : ClientId) : Bool := r.holder == some c

/-- The client stands in the line's wait list. -/
def Line.awaitedBy (r : Line) (c : ClientId) : Bool := r.waiters.any fun w => w.client == c

/-- The place of a client in the wait list, 1 for the head; 0 when it is not in it (R37). -/
def Line.placeOf (r : Line) (c : ClientId) : Nat :=
  if r.awaitedBy c then r.waiters.findIdx (fun w => w.client == c) + 1 else 0

/-- The level of a line at a grant: the new holder's park level during a supply hold, otherwise as it
was (R39). -/
def grantLevel (supply : SupplyState) (park before : Level) : Level :=
  match supply with
  | .hold => park
  | .normal => before

/-- The lease of a line ends: its pulse is cut, and the line goes to its head waiter, who is posted
GRANTED, or becomes FREE at its idle level (R39, R40, R41 steps 2 to 4, R50 steps 3 and 4, R52). -/
def passOn (l : LineId) (s : State) : State :=
  let r := s.line l
  match r.waiters with
  | w :: ws =>
    postNotice w.client .granted (BitVec.ofNat 16 l.val) .granted 0
      (s.setLine l
        { lease := some { client := w.client, park := w.park },
          level := grantLevel s.supplyState w.park r.level, pulse := none, waiters := ws })
  | [] => s.setLine l { lease := none, level := s.idleLevel l, pulse := none, waiters := [] }

/-- Remove a client's waiter record from every wait list (R121 step 3). -/
def leaveAllQueues (c : ClientId) (s : State) : State :=
  { s with
    lines := tabulate 8 fun l =>
      { s.line l with waiters := (s.line l).waiters.filter fun w => w.client != c } }

/-- Every HELD line has its pulse cut and goes to its park level (R53). -/
def Line.parked (r : Line) : Line :=
  match r.lease with
  | some lease => { r with pulse := none, level := lease.park }
  | none => r

/-- The line controller parks the lines at hold entry (R53). -/
def parkLines (s : State) : State := { s with lines := tabulate 8 fun l => (s.line l).parked }

end Sys2Proof.Machine
end

