-- ==== Sys2Proof/Machine/CalendarOps.lean ====
section
/-!
DEFINITION. The event calendar: handles, due order, insertion, removal, occurrences, late resolution
and strict withdrawal (R54 to R91).
-/

namespace Sys2Proof.Machine

/-! ## Entries -/

/-- The slot of a handle (R57). -/
def slotOf (h : Handle) : SlotId := ⟨h.toNat % 64, Nat.mod_lt _ (by decide)⟩

/-- The use count that follows another: 1023 is followed by 1 (R57). -/
def nextUseCount (u : BitVec 10) : BitVec 10 := if u = 1023 then 1 else u + 1

/-- The handle of a slot with a use count (R57). -/
def handleOf (k : SlotId) (u : BitVec 10) : Handle := BitVec.ofNat 16 (k.val + 64 * u.toNat)

/-- The entry a handle names for its owner; none for any other value (R57). -/
def findEntry (c : ClientId) (h : Handle) (s : State) : Option Entry :=
  match s.slot (slotOf h) with
  | some e => if e.handle == h && e.owner == c then some e else none
  | none => none

/-- The slots with their entries, in order of slot. -/
def State.entries (s : State) : List (SlotId × Entry) :=
  allSlots.filterMap fun k => (s.slot k).map fun e => (k, e)

/-- An entry stands before another in due order: the smaller signed distance, then the lower handle
(R59). -/
def dueBefore (count : Count) (a b : Entry) : Bool :=
  let da := signedDistance a.body.due count
  let db := signedDistance b.body.due count
  da < db || (da == db && decide (a.handle.toNat ≤ b.handle.toNat))

/-- Insert into a list in due order. -/
def insertByDue (count : Count) (x : SlotId × Entry) : List (SlotId × Entry) → List (SlotId × Entry)
  | [] => [x]
  | y :: ys => if dueBefore count x.2 y.2 then x :: y :: ys else y :: insertByDue count x ys

/-- Entries in due order (R59). -/
def sortByDue (count : Count) (es : List (SlotId × Entry)) : List (SlotId × Entry) :=
  es.foldr (insertByDue count) []

/-- The calendar in due order (R59). -/
def State.dueOrder (s : State) : List (SlotId × Entry) := sortByDue s.timebase s.entries

/-- The lowest empty slot (R63). -/
def State.freeSlot (s : State) : Option SlotId := allSlots.find? fun k => (s.slot k).isNone

/-- Insert a booked entry into a slot: the use count is advanced and the handle formed from it
(R57, R63). -/
def insertAtSlot (c : ClientId) (b : Booking) (k : SlotId) (s : State) : State :=
  let u := nextUseCount (s.useCount k)
  { s.setSlot k (some { handle := handleOf k u, owner := c, body := b }) with
    useCounts := s.useCounts.set k.val u }

/-- Remove the entries that a test picks; their slots keep their use counts (R68). -/
def removeEntries (pick : Entry → Bool) (s : State) : State :=
  { s with slots := tabulate 64 fun k => (s.slot k).filter fun e => !pick e }

/-- How many entries a test picks. -/
def countEntries (pick : Entry → Bool) (s : State) : Nat :=
  s.slots.toList.countP fun o => o.any pick

/-! ## Outcomes and notices -/

/-- The guard of an entry is met or absent (R82). -/
def guardMet (b : Booking) (s : State) : Bool :=
  match b.guard with
  | some g => (s.input g.input).level == g.level
  | none => true

/-- The entry after `k` occurrences have been consumed, or none when it is exhausted, and the
remaining count (R71, R87). -/
def consume (b : Booking) (k : Nat) : Option Booking × RepeatCount :=
  match b.rep with
  | none => (none, .times 0)
  | some r =>
    let due := b.due + BitVec.ofNat 48 (k * r.period.toNat)
    match r.count with
    | .unlimited => (some { b with due := due }, .unlimited)
    | .times n =>
      if n ≤ k then (none, .times 0)
      else (some { b with due := due, rep := some { r with count := .times (n - k) } },
            .times (n - k))

/-- Post FIRED to the owner as notify asks (R75, R90). -/
def postFired (e : Entry) (outcome : FireOutcome) (remaining : RepeatCount) (last : Bool)
    (s : State) : State :=
  let post := postNotice e.owner .fired e.handle (.fired outcome remaining last) e.body.tag s
  match e.body.notify with
  | .none => s
  | .each => post
  | .last => if last then post else s

/-- Post WITHDRAWN to the owner unless notify is NONE (R74, R76). -/
def postWithdrawn (e : Entry) (reason : WithdrawReason) (s : State) : State :=
  match e.body.notify with
  | .none => s
  | .each => postNotice e.owner .withdrawn e.handle (.withdrawn reason) e.body.tag s
  | .last => postNotice e.owner .withdrawn e.handle (.withdrawn reason) e.body.tag s

/-- Bring an entry forward by `k` occurrences, or remove it, and post FIRED (R71, R75, R87, R90). -/
def advanceEntry (k : SlotId) (e : Entry) (n : Nat) (outcome : FireOutcome) (s : State) : State :=
  let p := consume e.body n
  postFired e outcome p.2 p.1.isNone (s.setSlot k (p.1.map fun b => { e with body := b }))

/-- Hand an entry's action to its line, if the guard is met (R46, R81 to R83). -/
def applyEntry (e : Entry) (s : State) : State :=
  if guardMet e.body s then
    s.setLine e.body.line ((s.line e.body.line).apply e.body.action s.run)
  else s

/-- The outcome of an on-time occurrence (R88). -/
def onTimeOutcome (e : Entry) (s : State) : FireOutcome :=
  if guardMet e.body s then
    if (s.line e.body.line).ineffective e.body.action then .ineffective else .done
  else .guardSkipped

/-- An entry has an occurrence at the count: it stands at its due and no hold is in force (R81). -/
def isDue (e : Entry) (s : State) : Bool :=
  s.supplyState == .normal && e.body.due == s.timebase

/-- The occurrence of the entry in a slot, when it is due (R81). -/
def takeOccurrence (k : SlotId) (s : State) : State :=
  match s.slot k with
  | some e => if isDue e s then advanceEntry k e 1 (onTimeOutcome e s) (applyEntry e s) else s
  | none => s

/-! ## Lateness -/

/-- How many occurrences the due of a late entry has passed (R71, log 20). -/
def missedOccurrences (b : Booking) (count : Count) : Nat :=
  match b.rep with
  | none => 1
  | some r => max 1 ((distanceAhead count b.due + r.period.toNat - 1) / r.period.toNat)

/-- The late resolution of the entry in a slot, when it is behind the count (R71 to R75). -/
def resolveEntry (k : SlotId) (s : State) : State :=
  match s.slot k with
  | none => s
  | some e =>
    if isBehind e.body.due s.timebase then
      match e.body.late with
      | .fireLate =>
        advanceEntry k e (missedOccurrences e.body s.timebase)
          (if guardMet e.body s then .lateFired else .guardSkipped) (applyEntry e s)
      | .skip => advanceEntry k e (missedOccurrences e.body s.timebase) .lateSkipped s
      | .withdraw => postWithdrawn e .late (s.setSlot k none)
    else s

/-- The occurrences of the entries that stand at distance 0, each whole, in a free order (R70, R91,
log 22). -/
def takeDueOccurrences (s : State) : State :=
  let due := (s.entries.filter fun p => isDue p.2 s).map Prod.fst
  (freeOrder s.freeCount due).foldl (fun s k => takeOccurrence k s) (s.useFree due.length)

/-- The late resolution of one event: the late entries in due order, then the occurrences of the
entries at distance 0 (R69, R70). Behind is as R6 reads it, also for a due that the ticks of a hold have carried
more than 2^47 behind, which is not resolved: the model's choice (log 29). -/
def resolveLate (s : State) : State :=
  let late := (s.dueOrder.filter fun p => isBehind p.2.body.due s.timebase).map Prod.fst
  takeDueOccurrences (late.foldl (fun s k => resolveEntry k s) s)

/-- Withdraw the strict entries at a failover, in due order (R76). -/
def withdrawStrict (s : State) : State :=
  (s.dueOrder.filter fun p => p.2.body.strict).foldl
    (fun s p => postWithdrawn p.2 .strict (s.setSlot p.1 none)) s

/-! ## Booking (R60, R61) -/

/-- Checks 3 to 8 of a booking, in order; the first that fails gives the status (R60). -/
def bookingStatus (c : ClientId) (b : Booking) (s : State) : Option Status :=
  if !(s.line b.line).heldBy c then some .notHolder
  else if b.strict && s.quality == .degraded then some .degraded
  else if isBehind b.due s.timebase || decide (distanceAhead b.due s.timebase < Config.minLead) then
    some .tooSoon
  else if Config.horizon < distanceAhead b.due s.timebase then some .tooFar
  else if s.slots.toList.any (fun o => o.any fun e =>
      e.owner == c && e.body.line == b.line && e.body.due == b.due) then some .conflict
  else if s.share c ≤ s.entryCount c || 64 ≤ s.totalEntries then some .noSpace
  else none

/-- Book one entry whose checks have passed; the new handle comes with it (R63, log 20). -/
def bookEntry (c : ClientId) (b : Booking) (s : State) : State × Handle :=
  match s.freeSlot with
  | some k => (insertAtSlot c b k s, handleOf k (nextUseCount (s.useCount k)))
  | none => (s, 0)

/-- Book the members of a BATCH one after the other, each judged with the earlier ones inserted; the
first failure gives its index and status (R61, R62). -/
def bookMembers (c : ClientId) : Nat → List (List Byte) → State → Except (Nat × Status) (State × List Handle)
  | _, [], s => .ok (s, [])
  | index, m :: ms, s =>
    match parseBooking m with
    | none => .error (index, .invalid)
    | some b =>
      match bookingStatus c b s with
      | some status => .error (index, status)
      | none =>
        let p := bookEntry c b s
        match bookMembers c (index + 1) ms p.1 with
        | .ok (t, hs) => .ok (t, p.2 :: hs)
        | .error e => .error e

end Sys2Proof.Machine
end

