-- ==== Sys2Proof/Machine/SessionOps.lean ====
section
/-!
DEFINITION. Ending a session: the departure of a line (R50) and the teardown of a client (R121); and
the renewal of a keepalive (R115).
-/

namespace Sys2Proof.Machine

/-- Withdraw a client's entries on one line, without notice (R41 step 1, R50 step 1, R65). -/
def withdrawOnLine (c : ClientId) (l : LineId) (s : State) : State :=
  removeEntries (fun e => e.owner == c && e.body.line == l) s

/-- How many entries a client owns on one line (R41, R65). -/
def entriesOnLine (c : ClientId) (l : LineId) (s : State) : Nat :=
  countEntries (fun e => e.owner == c && e.body.line == l) s

/-- A line held by a departing client departs (R50): its entries are withdrawn and its pulse cut, it
goes to the departing park level, and it is passed on. Other lines are not touched. -/
def departLine (c : ClientId) (l : LineId) (s : State) : State :=
  match (s.line l).lease with
  | some lease =>
    if lease.client = c then
      let s := withdrawOnLine c l s
      passOn l (s.setLine l { (s.line l).cut with level := lease.park })
    else s
  | none => s

/-- Step 1 of a teardown: the token becomes free and the armed load is removed (R21). -/
def freeAuthority (c : ClientId) (s : State) : State :=
  if s.authority = some c then { s with authority := none, armed := none } else s

/-- Step 2 of a teardown: every subscription of the client is emptied (R103). -/
def clearSubscriptions (c : ClientId) (s : State) : State :=
  s.modifyClient c fun r => { r with subs := Vector.replicate 4 none }

/-- Step 4 of a teardown: every entry the client owns is removed (R80). -/
def withdrawAll (c : ClientId) (s : State) : State := removeEntries (fun e => e.owner == c) s

/-- Step 5 of a teardown: every line the client holds departs, from EL0 (R50). -/
def departLines (c : ClientId) (s : State) : State :=
  allLines.foldl (fun s l => departLine c l s) s

/-- Steps 6 and 7 of a teardown, and the session's new state: the queues, the notices-lost flag and
the slots of the client are cleared. A choice of the engine that named the emptied slot lapses, and the
engine chooses again (log 25). -/
def clearClient (c : ClientId) (after : Session) (s : State) : State :=
  let t := s.modifyClient c fun r =>
    { r with session := after, lost := false, notices := [], captures := [], request := none,
             response := .empty }
  { t with choice := if s.choice = some c then none else s.choice }

/-- The teardown of a client, one event, in the order of R121. -/
def teardown (c : ClientId) (after : Session) (s : State) : State :=
  clearClient c after
    (departLines c (withdrawAll c (leaveAllQueues c (clearSubscriptions c (freeAuthority c s)))))

/-- The deadline of a keepalive period from a run count (R114, R115, R17). -/
def deadlineFrom (run : Count) (period : Nat) : Count :=
  run + BitVec.ofNat 48 (period * Config.ticksPerMs)

/-- A take renews the keepalive of an OPEN client (R115). -/
def renewKeepalive (c : ClientId) (s : State) : State :=
  s.modifyClient c fun r =>
    match r.session with
    | .opened d => { r with session := .opened { d with deadline := deadlineFrom s.run d.period } }
    | .closed => r
    | .lapsed => r

end Sys2Proof.Machine
end

