-- ==== Sys2Proof/Machine/TimeOps.lean ====
section
/-!
DEFINITION. Steps of the timebase count: the checks of R23, the effects of R26, and the sync load of
R30.
-/

namespace Sys2Proof.Machine

/-- The step limit (R23 check 1). -/
def withinStepLimit (new : Count) (s : State) : Bool :=
  s.timeState == .unset || decide ((stepOf s.timebase new).2 ≤ Config.stepLimit)

/-- An entry lies further ahead of a count than the horizon (R23 check 2, R78). -/
def beyondHorizon (count : Count) (e : Entry) : Bool :=
  isAhead e.body.due count && decide (Config.horizon < distanceAhead e.body.due count)

/-- A backward step from a count would take an entry that lies ahead of it past the horizon, however far
the step goes: its distance grows by the size of the step (R7, R23). -/
def pushedBeyond (count new : Count) (e : Entry) : Bool :=
  isAhead e.body.due count && (stepOf count new).1 == .backward
    && decide (Config.horizon < distanceAhead e.body.due count + (stepOf count new).2)

/-- No entry would lie beyond the horizon (R23 check 2). An entry nearly 2^47 behind passes, as R23 says, though
ticks of the same hold may then carry it past 2^47 (log 29). -/
def withinHorizon (new : Count) (s : State) : Bool :=
  !s.slots.toList.any fun o => o.any fun e => beyondHorizon new e || pushedBeyond s.timebase new e

/-- A step may be made: a step of zero passes, any other passes both checks (R23). -/
def stepAllowed (new : Count) (s : State) : Bool :=
  s.timebase == new || (withinStepLimit new s && withinHorizon new s)

/-- The magnitude a SHIFTED notice reports, saturating at 2^32-1 (R26). -/
def shiftedMagnitude (size : Nat) : BitVec 32 := BitVec.ofNat 32 (min size Config.stepLimit)

/-- An accepted step: the count and the time state, the SHIFTED notices, and, for a forward step
outside a supply hold, the late resolution (R5, R26). -/
def timeStep (new : Count) (s : State) : State :=
  let step := stepOf s.timebase new
  let s := { s with timebase := new, timeState := .set }
  let s := postAll .shifted (.shifted step.1 (shiftedMagnitude step.2)) s
  if step.1 = .forward ∧ s.supplyState = .normal then resolveLate s else s

/-- A SYNC edge reaches the time authority unit: an armed load of its kind is performed or refused
(R30). `passed` is the number of ticks since the change was first seen. -/
def syncLoad (edge : EdgeKind) (passed : Count) (s : State) : State :=
  match s.armed with
  | none => s
  | some load =>
    if load.edge = edge then
      let new := load.value + passed
      let allowed := stepAllowed new s
      let detail : NoticeDetail := .sync (if allowed then .loaded else .refusedRange)
      let s := { s with armed := none }
      let s := match s.authority with
        | some c => postNotice c .sync 0 detail 0 s
        | none => s
      if allowed then timeStep new s else s
    else s

end Sys2Proof.Machine
end

