-- ==== Sys2Proof/Machine/RequestOps.lean ====
section
/-!
DEFINITION. The execution of the request that the engine holds, and the checks that requests share
(R134, R137 to R140).
-/

namespace Sys2Proof.Machine

/-- What a request answers: its status and its result (R134). -/
abbrev Reply := Status × List Byte

/-- The effect of a request: from the requester, the parameters and the state, the new state and the
reply. -/
abbrev Request := ClientId → List Byte → State → State × Reply

/-- The engine holds a request of a kind that has been taken and not yet executed (R134); requests are
executed only while the device runs (R147, R178). -/
def holdsRequest (want : Byte → Bool) (s : State) : Option EngineJob :=
  match s.engine with
  | some j =>
    if want j.frame.kind && j.outcome.isNone && s.phase == .running then some j else none
  | none => none

/-- Execute the request held, when it is of the kind wanted; its reply waits for the completion
(R134). With no such request held the event is not on offer and nothing happens (log 1). -/
def runRequest (want : Byte → Bool) (f : Request) (s : State) : State :=
  match holdsRequest want s with
  | some j =>
    let p := f j.client j.frame.params s
    { p.1 with engine := some { j with outcome := some p.2 } }
  | none => s

/-- A refusal leaves every block as it was (R140). -/
def refuse (status : Status) (s : State) : State × Reply := (s, status, [])

/-- Check 2 of R137: the requester must be OPEN (R139). -/
def whenOpen (c : ClientId) (s : State) (k : State × Reply) : State × Reply :=
  if s.isOpen c then k else refuse .notOpen s

/-- Check 3 of R137: the parameters must parse. -/
def withParams {α : Type} (parsed : Option α) (s : State) (k : α → State × Reply) :
    State × Reply :=
  match parsed with
  | some a => k a
  | none => refuse .invalid s

/-- The gate of R22: OPEN, parameters, authority. -/
def gated {α : Type} (c : ClientId) (parsed : Option α) (s : State) (k : α → State × Reply) :
    State × Reply :=
  whenOpen c s (withParams parsed s fun a =>
    if s.authority = some c then k a else refuse .noAuthority s)

end Sys2Proof.Machine
end

