-- ==== Sys2Proof/Machine/CalendarRequests.lean ====
section
/-!
DEFINITION. The requests SCHEDULE, BATCH, CANCEL, CANCEL_LINE, QUERY_ENTRY and LIST_ENTRIES (R60, R61,
R64 to R67).
-/

namespace Sys2Proof.Machine

/-- SCHEDULE (R60, R63). -/
def requestSchedule : Request := fun c ps s =>
  whenOpen c s (withParams (parseBooking ps) s fun b =>
    match bookingStatus c b s with
    | some status => refuse status s
    | none =>
      let p := bookEntry c b s
      (p.1, .ok, beBytes 2 p.2.toNat ++ [byteOf (p.1.entryCount c)]))

/-- A refused BATCH carries its failing member and inserts none (R61, R142). -/
def refuseBatch (status : Status) (member : Nat) (s : State) : State × Reply :=
  (s, status, [byteOf member])

/-- BATCH (R61, R62). On OK no member fails, and the failing-member byte, to which the spec then gives no
value, is 00h: the model's choice (log 26). -/
def requestBatch : Request := fun c ps s =>
  if !s.isOpen c then refuseBatch .notOpen 0 s
  else
    match parseBatch ps with
    | none => refuseBatch .invalid 0 s
    | some members =>
      match bookMembers c 1 members s with
      | .error (member, status) => refuseBatch status member s
      | .ok (t, handles) =>
        (t, .ok, [0x00] ++ handles.flatMap (fun h => beBytes 2 h.toNat) ++ [byteOf (t.entryCount c)])

/-- The repeat count an entry has, 1 for a single occurrence (R64). -/
def countOf (b : Booking) : RepeatCount :=
  match b.rep with
  | some r => r.count
  | none => .times 1

/-- CANCEL (R64). -/
def requestCancel : Request := fun c ps s =>
  whenOpen c s (withParams (parseHandle ps) s fun h =>
    match findEntry c h s with
    | some e =>
      (s.setSlot (slotOf h) none, .ok, [byteOf e.body.line.val] ++ countBytes (countOf e.body))
    | none => refuse .notFound s)

/-- CANCEL_LINE (R65). -/
def requestCancelLine : Request := fun c ps s =>
  whenOpen c s (withParams (parseLine ps) s fun l =>
    if (s.line l).heldBy c then
      (withdrawOnLine c l s, .ok, [byteOf (entriesOnLine c l s)])
    else refuse .notHolder s)

/-- A signed distance in 48-bit two's complement (R179). -/
def distanceBytes (d : Int) : List Byte := beBytes 6 (BitVec.ofInt 48 d).toNat

/-- QUERY_ENTRY (R66). -/
def requestQueryEntry : Request := fun c ps s =>
  whenOpen c s (withParams (parseHandle ps) s fun h =>
    match findEntry c h s with
    | some e =>
      (s, .ok, bookingBytes e.body ++ distanceBytes (signedDistance e.body.due s.timebase))
    | none => refuse .notFound s)

/-- The requester's handles in due order (R67). -/
def ownHandles (c : ClientId) (s : State) : List Handle :=
  (s.dueOrder.filter fun p => p.2.owner == c).map fun p => p.2.handle

/-- The handles that follow a start handle; the whole list for start handle 0 (R67). -/
def handlesFrom (c : ClientId) (start : Handle) (s : State) : Option (List Handle) :=
  let own := ownHandles c s
  if start = 0 then some own
  else
    match findEntry c start s with
    | some _ => some (own.drop (own.findIdx (· == start) + 1))
    | none => none

/-- LIST_ENTRIES (R67). -/
def requestListEntries : Request := fun c ps s =>
  whenOpen c s (withParams (parseHandle ps) s fun start =>
    match handlesFrom c start s with
    | some hs =>
      let given := hs.take 3
      (s, .ok,
       [byteOf (s.entryCount c), byteOf given.length, flagCode (decide (3 < hs.length))]
         ++ given.flatMap fun h => beBytes 2 h.toNat)
    | none => refuse .notFound s)

end Sys2Proof.Machine
end

