-- ==== Sys2Proof/Machine/CaptureRequests.lean ====
section
/-!
DEFINITION. The requests SUBSCRIBE, UNSUBSCRIBE, TAKE_CAPTURES and TAKE_NOTICES (R104, R105, R109,
R128).
-/

namespace Sys2Proof.Machine

/-- A client's place in the subscription table (R103). -/
def Client.sub (r : Client) (i : InputId) : Option EdgeChoice := r.subs[i.val]

/-- Fill or empty a place of the subscription table (R103). -/
def Client.setSub (r : Client) (i : InputId) (e : Option EdgeChoice) : Client :=
  { r with subs := r.subs.set i.val e }

/-- SUBSCRIBE (R104). -/
def requestSubscribe : Request := fun c ps s =>
  whenOpen c s (withParams (parseSubscribe ps) s fun (i, choice) =>
    let r := s.client c
    (s.setClient c (r.setSub i (some choice)), .ok,
     [match r.sub i with
      | some former => edgeChoiceCode former
      | none => 0x00]))

/-- UNSUBSCRIBE (R105). -/
def requestUnsubscribe : Request := fun c ps s =>
  whenOpen c s (withParams (parseInput ps) s fun i =>
    let r := s.client c
    match r.sub i with
    | some former => (s.setClient c (r.setSub i none), .ok, [edgeChoiceCode former])
    | none => refuse .notFound s)

/-- TAKE_CAPTURES (R109). -/
def requestTakeCaptures : Request := fun c ps s =>
  whenOpen c s (withParams (parseNone ps) s fun _ =>
    let r := s.client c
    let given := r.captures.take 4
    let left := r.captures.drop 4
    (s.setClient c { r with captures := left }, .ok,
     [byteOf given.length, byteOf left.length] ++ given.flatMap captureBytes))

/-- TAKE_NOTICES: the records are removed, then the notices-lost flag is read and cleared (R128). -/
def requestTakeNotices : Request := fun c ps s =>
  whenOpen c s (withParams (parseNone ps) s fun _ =>
    let r := s.client c
    let given := r.notices.take 3
    let left := r.notices.drop 3
    (s.setClient c { r with notices := left, lost := false }, .ok,
     [byteOf given.length, byteOf left.length, flagCode r.lost] ++ given.flatMap noticeBytes))

end Sys2Proof.Machine
end

