-- ==== Sys2Proof/Machine/LineRequests.lean ====
section
/-!
DEFINITION. The requests ACQUIRE, RELEASE, LEAVE_QUEUE, DRIVE and LINE_STATUS (R37, R41, R42, R44,
R45).
-/

namespace Sys2Proof.Machine

/-- The result of ACQUIRE: the holder after execution and the requester's place (R37). -/
def acquireResult (r : Line) (c : ClientId) : List Byte :=
  [optClientCode r.holder, byteOf (r.placeOf c)]

/-- ACQUIRE, its rows tried in order (R37, R39). -/
def requestAcquire : Request := fun c ps s =>
  whenOpen c s (withParams (parseAcquire ps) s fun (l, park, wait) =>
    let r := s.line l
    match r.lease with
    | none =>
      let r' := { r with lease := some { client := c, park },
                         level := grantLevel s.supplyState park r.level }
      (s.setLine l r', .ok, acquireResult r' c)
    | some lease =>
      if lease.client = c || r.awaitedBy c then (s, .already, acquireResult r c)
      else if !wait then (s, .held, acquireResult r c)
      else if 3 ≤ r.waiters.length then (s, .waitFull, acquireResult r c)
      else
        let r' := { r with waiters := r.waiters ++ [{ client := c, park }] }
        (s.setLine l r', .queued, acquireResult r' c))

/-- RELEASE: the entries are withdrawn and the line passed on (R41). -/
def requestRelease : Request := fun c ps s =>
  whenOpen c s (withParams (parseLine ps) s fun l =>
    if (s.line l).heldBy c then
      let s' := passOn l (withdrawOnLine c l s)
      (s', .ok, [optClientCode (s'.line l).holder, byteOf (entriesOnLine c l s)])
    else refuse .notHolder s)

/-- LEAVE_QUEUE (R42). -/
def requestLeaveQueue : Request := fun c ps s =>
  whenOpen c s (withParams (parseLine ps) s fun l =>
    let r := s.line l
    if r.awaitedBy c then
      (s.setLine l { r with waiters := r.waiters.filter fun w => w.client != c }, .ok, [])
    else refuse .notFound s)

/-- DRIVE (R44). -/
def requestDrive : Request := fun c ps s =>
  whenOpen c s (withParams (parseDrive ps) s fun (l, level) =>
    let r := s.line l
    if !r.heldBy c then refuse .notHolder s
    else if s.supplyState = .hold then refuse .hold s
    else
      (s.setLine l { r.cut with level := level }, .ok,
       [levelCode r.level, flagCode r.pulse.isSome]))

/-- Three waiter bytes from the head, FFh where empty (12.3). -/
def waiterBytes (ws : List Waiter) : List Byte :=
  [optClientCode (ws[0]?.map Waiter.client), optClientCode (ws[1]?.map Waiter.client),
   optClientCode (ws[2]?.map Waiter.client)]

/-- LINE_STATUS (R45). -/
def requestLineStatus : Request := fun c ps s =>
  whenOpen c s (withParams (parseLine ps) s fun l =>
    let r := s.line l
    (s, .ok,
     [flagCode r.lease.isSome, optClientCode r.holder, levelCode r.level,
      optLevelCode (r.lease.map Lease.park), driveModeCode (s.driveMode l),
      flagCode r.pulse.isSome, byteOf r.waiters.length] ++ waiterBytes r.waiters))

end Sys2Proof.Machine
end

