-- ==== Sys2Proof/Machine/OptionOps.lean ====
section
/-!
DEFINITION. The option store: the newest copy, the target of a store, its acceptance, its completion
and its end at a reset (R171 to R176).
-/

namespace Sys2Proof.Machine

/-- One copy. -/
def State.copy (s : State) : CopyName → List Byte
  | .a => s.copyA
  | .b => s.copyB

/-- Replace one copy. -/
def State.setCopy (s : State) (n : CopyName) (bytes : List Byte) : State :=
  match n with
  | .a => { s with copyA := bytes }
  | .b => { s with copyB := bytes }

/-- One copy record. -/
def State.record (s : State) : CopyName → CopyRecord
  | .a => s.recordA
  | .b => s.recordB

/-- Replace one copy record. -/
def State.setRecord (s : State) (n : CopyName) (r : CopyRecord) : State :=
  match n with
  | .a => { s with recordA := r }
  | .b => { s with recordB := r }

/-- The other copy. -/
def CopyName.other : CopyName → CopyName
  | .a => .b
  | .b => .a

/-- A generation is newer than another (R171). -/
def newerThan (g h : BitVec 16) : Bool := decide (1 ≤ (g - h).toNat) && decide ((g - h).toNat ≤ 32767)

/-- The newest copy by the records, or none when neither is good; two of which neither is newer leave
A the newest (R171). -/
def newestCopy (a b : CopyRecord) : Option CopyName :=
  match a.good, b.good with
  | true, true => if newerThan b.generation a.generation then some .b else some .a
  | true, false => some .a
  | false, true => some .b
  | false, false => none

/-- The generation after another, 65535 followed by 1 (R173). -/
def nextGeneration (g : BitVec 16) : BitVec 16 := if g = 65535 then 1 else g + 1

/-- The target and the generation of a store (R173). -/
def storeTarget (s : State) : CopyName × BitVec 16 :=
  match newestCopy s.recordA s.recordB with
  | some n => (n.other, nextGeneration (s.record n).generation)
  | none => (.a, 1)

/-- The record of a copy as read (R171). -/
def recordOf (copy : List Byte) : CopyRecord :=
  { good := copyGood copy, generation := copyGeneration copy }

/-- The write is over: the bytes read back stand in the target copy, which is verified; STORE is
posted to the requester (R174). -/
def finishStore (job : StoreJob) (readBack : List Byte) (s : State) : State :=
  let verified := readBack == copyBytes job.image job.generation
  let s := s.setCopy job.target readBack
  let s := if verified then s.setRecord job.target { good := true, generation := job.generation }
    else s
  postNotice job.requester .store 0 (.store verified job.target) 0 { s with store := none }

/-- A copy of failing checksum made from free bytes: a partial image (R175). -/
def partialImage (start : Nat) : List Byte :=
  let bytes := freeBytes start 32
  if copyChecksumOk bytes then bytes.dropLast ++ [bytes.getLastD 0 ^^^ 0x01#8] else bytes

/-- What a reset during the write leaves in the target copy: the old contents, the new image whole, or
a partial image, freely (R175, log 14). -/
def abandonStore (s : State) : State :=
  match s.store with
  | none => s
  | some job =>
    let pick := Config.freeNat s.freeCount % 3
    let bytes :=
      if pick = 0 then s.copy job.target
      else if pick = 1 then copyBytes job.image job.generation
      else partialImage (s.freeCount + 1)
    (s.setCopy job.target bytes).useFree 33

/-- The working options and the option status that the load chooses from two copies as read (R172). -/
def loadOptions (copyA copyB : List Byte) : Options × OptionStatus :=
  match newestCopy (recordOf copyA) (recordOf copyB) with
  | some .a => (withAddressFallback ((parseImage (copyA.take 28)).getD .default), .copyA)
  | some .b => (withAddressFallback ((parseImage (copyB.take 28)).getD .default), .copyB)
  | none => (.default, .defaults)

end Sys2Proof.Machine
end

