-- ==== Sys2Proof/Machine/OptionRequests.lean ====
section
/-!
DEFINITION. The requests READ_OPTIONS and STORE_OPTIONS (R173, R176).
-/

namespace Sys2Proof.Machine

/-- The store in progress as READ_OPTIONS reports it (R176). -/
def storeBytes : Option StoreJob → List Byte
  | some job => [copyCode job.target] ++ beBytes 2 job.generation.toNat
  | none => [0xFF, 0x00, 0x00]

/-- READ_OPTIONS (R176). -/
def requestReadOptions : Request := fun c ps s =>
  whenOpen c s (withParams (parseNone ps) s fun _ =>
    (s, .ok, imageBytes s.options ++ [optionStatusCode s.optionStatus] ++ storeBytes s.store))

/-- STORE_OPTIONS: the store is accepted and the target's record becomes not good (R173). That the target
copy keeps its old bytes until the write ends is the model's choice (log 27). -/
def requestStoreOptions : Request := fun c ps s =>
  gated c (parseStoreImage ps) s fun image =>
    if s.store.isSome then refuse .busy s
    else
      let p := storeTarget s
      let job : StoreJob := { requester := c, target := p.1, generation := p.2, image,
                              acceptedAt := s.run }
      ({ s.setRecord p.1 { s.record p.1 with good := false } with store := some job }, .ok,
       [copyCode p.1] ++ beBytes 2 p.2.toNat)

end Sys2Proof.Machine
end

