-- ==== Sys2Proof/Machine/SessionRequests.lean ====
section
/-!
DEFINITION. The requests OPEN, CLOSE, HEARTBEAT, SET_ATTENTION, INFO, and the answer to an unknown
kind (R114, R118, R119, R120, R138, R146).
-/

namespace Sys2Proof.Machine

/-- OPEN (R114). -/
def requestOpen : Request := fun c ps s =>
  if !s.isEnabled c then refuse .disabled s
  else withParams (parseOpen ps) s fun (period, mask) =>
    let before := s.client c
    (s.setClient c
      { before with
        session := .opened { period, deadline := deadlineFrom s.run period, mask } },
     if before.isOpen then .already else .ok,
     [sessionCode before.session] ++ beBytes 4 (period * Config.ticksPerMs))

/-- How many lines a client holds (R120). -/
def linesHeld (c : ClientId) (s : State) : Nat := allLines.countP fun l => (s.line l).heldBy c

/-- CLOSE: the requester's teardown, then CLOSED (R120). -/
def requestClose : Request := fun c ps s =>
  whenOpen c s (withParams (parseNone ps) s fun _ =>
    let r := s.client c
    (teardown c .closed s, .ok,
     [byteOf (linesHeld c s), byteOf (s.entryCount c), byteOf r.notices.length,
      byteOf r.captures.length]))

/-- HEARTBEAT; its take has renewed the keepalive (R118). -/
def requestHeartbeat : Request := fun c ps s =>
  whenOpen c s (withParams (parseNone ps) s fun _ =>
    let r := s.client c
    let distance := match r.session with
      | .opened d => distanceAhead d.deadline s.run
      | .closed => 0
      | .lapsed => 0
    (s, .ok, [byteOf r.notices.length, byteOf r.captures.length] ++ beBytes 4 distance))

/-- SET_ATTENTION (R119). -/
def requestSetAttention : Request := fun c ps s =>
  whenOpen c s (withParams (parseMask ps) s fun mask =>
    match (s.client c).session with
    | .opened d =>
      (s.setClient c { s.client c with session := .opened { d with mask := mask } }, .ok,
       [maskCode d.mask])
    | .closed => refuse .notOpen s
    | .lapsed => refuse .notOpen s)

/-- INFO, for any client (R146). -/
def requestInfo : Request := fun c ps s =>
  withParams (parseNone ps) s fun _ =>
    (s, .ok,
     [0x2D, 0x84, 0x10, 0x01, clientCode c, sessionCode (s.client c).session,
      resetCauseCode s.lastReset, optionStatusCode s.optionStatus, clockCode s.clock,
      timeStateCode s.timeState, supplyStateCode s.supplyState, byteOf (64 - s.totalEntries),
      byteOf (s.entryCount c), byteOf (s.share c)])

/-- A kind that names no request (R138). -/
def requestUnknown : Request := fun _ _ s => refuse .unknownKind s

end Sys2Proof.Machine
end

