-- ==== Sys2Proof/Machine/TimeRequests.lean ====
section
/-!
DEFINITION. The requests READ_TIME, CLAIM_AUTHORITY, YIELD_AUTHORITY, SET_TIME, SHIFT, ARM_SYNC,
DISARM_SYNC and RESTORE_CLOCK (R11, R15, R19, R20, R22 to R29).
-/

namespace Sys2Proof.Machine

/-- READ_TIME (R15). -/
def requestReadTime : Request := fun c ps s =>
  whenOpen c s (withParams (parseNone ps) s fun _ =>
    (s, .ok,
     beBytes 6 s.timebase.toNat ++ beBytes 6 s.run.toNat
       ++ [timeStateCode s.timeState, clockCode s.clock, supplyStateCode s.supplyState]))

/-- CLAIM_AUTHORITY (R19). -/
def requestClaimAuthority : Request := fun c ps s =>
  whenOpen c s (withParams (parseNone ps) s fun _ =>
    match s.authority with
    | none => ({ s with authority := some c }, .ok, [clientCode c])
    | some holder =>
      (s, if holder = c then .already else .held, [clientCode holder]))

/-- YIELD_AUTHORITY; an armed load is removed with SYNC CANCELLED (R20). -/
def requestYieldAuthority : Request := fun c ps s =>
  whenOpen c s (withParams (parseNone ps) s fun _ =>
    if s.authority = some c then
      let t := { s with authority := none, armed := none }
      (if s.armed.isSome then postNotice c .sync 0 (.sync .cancelled) 0 t else t, .ok, [])
    else refuse .noAuthority s)

/-- The result of SET_TIME and SHIFT: the step's direction and size (R24). -/
def stepBytes (step : StepDirection × Nat) : List Byte :=
  [directionCode step.1] ++ beBytes 6 step.2

/-- Make a step that a request asks for, or refuse it with RANGE (R23, R24). -/
def stepRequest (new : Count) (s : State) : State × Reply :=
  let result := stepBytes (stepOf s.timebase new)
  if stepAllowed new s then (timeStep new s, .ok, result) else (s, .range, result)

/-- SET_TIME (R24). -/
def requestSetTime : Request := fun c ps s =>
  gated c (parseSetTime ps) s fun value => stepRequest value s

/-- The count a SHIFT asks for (R25). -/
def shiftedCount (direction : StepDirection) (magnitude : BitVec 32) (count : Count) : Count :=
  match direction with
  | .forward => count + magnitude.setWidth 48
  | .backward => count - magnitude.setWidth 48
  | .none => count

/-- SHIFT (R25). -/
def requestShift : Request := fun c ps s =>
  gated c (parseShift ps) s fun (direction, magnitude) =>
    stepRequest (shiftedCount direction magnitude s.timebase) s

/-- ARM_SYNC (R28). -/
def requestArmSync : Request := fun c ps s =>
  gated c (parseArm ps) s fun load =>
    ({ s with armed := some load }, .ok, [flagCode s.armed.isSome])

/-- DISARM_SYNC (R29). -/
def requestDisarmSync : Request := fun c ps s =>
  gated c (parseNone ps) s fun _ =>
    match s.armed with
    | some load =>
      ({ s with armed := none }, .ok, beBytes 6 load.value.toNat ++ [edgeKindCode load.edge])
    | none => refuse .notFound s

/-- RESTORE_CLOCK: a restart begins from BACKUP (R11). -/
def requestRestoreClock : Request := fun c ps s =>
  gated c (parseNone ps) s fun _ =>
    match s.clock with
    | some .backup =>
      ({ s with clock := some .restarting, restartProgress := 0,
                startWindow := some Config.startWindowCycles, missingCycles := 0 }, .ok, [])
    | some .restarting => refuse .busy s
    | some .main => refuse .invalidState s
    | none => refuse .invalidState s

end Sys2Proof.Machine
end

