-- ==== Sys2Proof/Machine/EngineOps.lean ====
section
/-!
DEFINITION. The request engine: the choice of a slot, the take with its duplicate check, and the
completion (R134, R135, R145).
-/

namespace Sys2Proof.Machine

/-- The kind codes that name requests (12.2, Kind field values). -/
def requestOfKind (kind : Byte) : Option Request :=
  if kind = 0x10 then some requestOpen
  else if kind = 0x11 then some requestClose
  else if kind = 0x12 then some requestHeartbeat
  else if kind = 0x13 then some requestSetAttention
  else if kind = 0x14 then some requestInfo
  else if kind = 0x20 then some requestAcquire
  else if kind = 0x21 then some requestRelease
  else if kind = 0x22 then some requestLeaveQueue
  else if kind = 0x23 then some requestDrive
  else if kind = 0x24 then some requestLineStatus
  else if kind = 0x30 then some requestSchedule
  else if kind = 0x31 then some requestBatch
  else if kind = 0x32 then some requestCancel
  else if kind = 0x33 then some requestCancelLine
  else if kind = 0x34 then some requestQueryEntry
  else if kind = 0x35 then some requestListEntries
  else if kind = 0x40 then some requestSubscribe
  else if kind = 0x41 then some requestUnsubscribe
  else if kind = 0x42 then some requestTakeCaptures
  else if kind = 0x48 then some requestTakeNotices
  else if kind = 0x50 then some requestReadTime
  else if kind = 0x51 then some requestClaimAuthority
  else if kind = 0x52 then some requestYieldAuthority
  else if kind = 0x53 then some requestSetTime
  else if kind = 0x54 then some requestShift
  else if kind = 0x55 then some requestArmSync
  else if kind = 0x56 then some requestDisarmSync
  else if kind = 0x57 then some requestRestoreClock
  else if kind = 0x60 then some requestReadOptions
  else if kind = 0x61 then some requestStoreOptions
  else none

/-- A kind that names a request (R138). -/
def knownKind (kind : Byte) : Bool := (requestOfKind kind).isSome

/-- The clients in the order the engine looks, from the one after the pointer (R135). -/
def roundRobin (pointer : ClientId) : List ClientId :=
  [pointer + 1, pointer + 2, pointer + 3, pointer]

/-- The client that round-robin order gives among the slots that hold a frame (R135). -/
def waitingClient (s : State) : Option ClientId :=
  (roundRobin s.pointer).find? fun c => (s.client c).request.isSome

/-- The client whose frame the free engine takes next: the one it has chosen, or, where it found every
slot empty when it became free, the one that round-robin order gives now (R135). -/
def nextClient (s : State) : Option ClientId :=
  match s.choice with
  | some c => some c
  | none => waitingClient s

/-- The engine becomes free, and chooses among the slots that hold a frame at this moment (R135). -/
def freeEngine (s : State) : State := { s with engine := none, choice := waitingClient s }

/-- A frame is a duplicate: the slot is DONE with its sequence and kind (R145). -/
def isDuplicate (slot : ResponseSlot) (f : Frame) : Bool :=
  match slot with
  | .done q k _ => q == f.sequence && k == f.kind
  | .empty => false
  | .pending _ _ => false

/-- Take a client's frame: the slot empties, the pointer is set, the keepalive is renewed, and, unless
the frame is a duplicate, the response slot becomes PENDING and the engine holds it; a duplicate ends here
and leaves the engine free to choose again (R134, R135, R145). -/
def takeFrame (c : ClientId) (f : Frame) (s : State) : State :=
  let s := { s with pointer := c, choice := none }
  let s := s.modifyClient c fun r => { r with request := none }
  let s := renewKeepalive c s
  if isDuplicate (s.client c).response f then freeEngine s
  else
    let s := s.modifyClient c fun r => { r with response := .pending f.sequence f.kind }
    { s with engine := some { client := c, frame := f, takenAt := s.run, outcome := none } }

/-- The free engine takes the frame of the client it has chosen (R134, R135). -/
def takeRequest (s : State) : State :=
  if s.engine.isSome || s.phase != .running then s
  else
    match nextClient s with
    | some c =>
      match (s.client c).request with
      | some f => takeFrame c f s
      | none => s
    | none => s

/-- The response of the executed request is written with the client flags of this moment, and the
engine is free and chooses the next slot (R134, R135, R143). -/
def completeRequest (s : State) : State :=
  match s.engine with
  | some j =>
    match j.outcome with
    | some (status, result) =>
      let response : Response := { status, result, flags := clientFlags j.client s }
      let s := s.modifyClient j.client fun r =>
        { r with response := .done j.frame.sequence j.frame.kind response }
      freeEngine s
    | none => s
  | none => s

/-- Execute the request held, whatever its kind (R134, R138). -/
def executeHeld (s : State) : State :=
  match s.engine with
  | some j => runRequest (fun _ => true) ((requestOfKind j.frame.kind).getD requestUnknown) s
  | none => s

end Sys2Proof.Machine
end

