-- ==== Sys2Proof/Machine/PortOps.lean ====
section
/-!
DEFINITION. The two serial ports: marks, the placing of frames, the bits of a four-wire transaction,
the bytes and conditions of the two-wire bus (R149 to R161).
-/

namespace Sys2Proof.Machine

/-! ## Marks and slots -/

/-- Mark COLLIDED for a client (R152). -/
def markCollided (c : ClientId) (s : State) : State :=
  s.modifyClient c fun r => { r with marks := { r.marks with collided := true } }

/-- Mark FRAME_ERR for a client (R152). -/
def markFrameErr (c : ClientId) (s : State) : State :=
  s.modifyClient c fun r => { r with marks := { r.marks with frameErr := true } }

/-- Mark DISCARDED for a client (R152). -/
def markDiscarded (c : ClientId) (s : State) : State :=
  s.modifyClient c fun r => { r with marks := { r.marks with discarded := true } }

/-- A status byte has been sent whole: the marks it carried set are cleared (R152). -/
def clearCarried (c : ClientId) (status : Byte) (s : State) : State :=
  s.modifyClient c fun r =>
    { r with
      marks :=
        { collided := r.marks.collided && !bitOf status 4,
          frameErr := r.marks.frameErr && !bitOf status 3,
          discarded := r.marks.discarded && !bitOf status 2 } }

/-- Place a good frame in a client's request slot (R133). -/
def placeFrame (c : ClientId) (f : Frame) (s : State) : State :=
  s.modifyClient c fun r => { r with request := some f }

/-! ## The four-wire port -/

/-- The client of a select line (R149). -/
def selectClient : Select → ClientId
  | .selA => 0
  | .selB => 1

/-- A select is active. -/
def State.isActive (s : State) : Select → Bool
  | .selA => s.selA
  | .selB => s.selB

/-- Change the level of a select. -/
def State.setSelect (s : State) (sel : Select) (active : Bool) : State :=
  match sel with
  | .selA => { s with selA := active }
  | .selB => { s with selB := active }

/-- The other select. -/
def otherSelect : Select → Select
  | .selA => .selB
  | .selB => .selA

/-- One rising SCK edge with its SDI bit (R150). The eighth completes the status byte, which clears the
marks it carried (R152), and, when the first byte is 00h, takes the response frame (R154). -/
def fourWireBit (b : Bool) (s : State) : State :=
  match s.fourWire with
  | .active t =>
    let t := { t with bits := t.bits ++ [b] }
    if t.bits.length = 8 then
      let t := if byteOfBits t.bits = 0 then { t with response := some (fetchFrame t.client s) }
        else t
      clearCarried t.client t.status { s with fourWire := .active t }
    else { s with fourWire := .active t }
  | .notReady _ => s
  | .idle => s
  | .void => s

/-- Several rising SCK edges. -/
def fourWireBits (bits : List Bool) (s : State) : State := bits.foldl (fun s b => fourWireBit b s) s

/-- The eight bits of a byte, most significant first (R149). -/
def bitsOfByte (b : Byte) : List Bool :=
  [bitOf b 7, bitOf b 6, bitOf b 5, bitOf b 4, bitOf b 3, bitOf b 2, bitOf b 1, bitOf b 0]

/-- The bits still owed to the first byte of a transaction that has received `k` of them. -/
def restOfFirstByte (b : Byte) (k : Nat) : List Bool := (bitsOfByte b).drop k

/-- A transaction has received fewer than eight bits: its status byte has not been sent whole. -/
def State.inFirstByte (s : State) : Option FourWireTransaction :=
  match s.fourWire with
  | .active t => if t.bits.length < 8 then some t else none
  | .notReady _ => none
  | .idle => none
  | .void => none

/-- The first byte of the transaction in progress is completed with the bits of `b` (R152, R154). -/
def completeFirstByte (b : Byte) (s : State) : State :=
  match s.inFirstByte with
  | some t => fourWireBits (restOfFirstByte b t.bits.length) s
  | none => s

/-- The first byte was whole and was 00h: the transaction is a FETCH (R149, R154). -/
def isFetch (bits : List Bool) : Bool :=
  decide (8 ≤ bits.length) && byteOfBits (bits.take 8) == 0

/-- A four-wire transaction ends by the release of its select: a FETCH ends, a frame is judged and
placed, or discarded with FRAME_ERR or DISCARDED marked (R153, R154). -/
def endTransaction (t : FourWireTransaction) (s : State) : State :=
  if t.bits.isEmpty then s
  else if isFetch t.bits then s
  else if t.bits.length % 8 != 0 then markFrameErr t.client s
  else
    match parseFrame (wholeBytes t.bits) with
    | none => markFrameErr t.client s
    | some f =>
      if (s.client t.client).request.isNone then placeFrame t.client f s
      else markDiscarded t.client s

/-- The port with one select just made active while the other is not (R150, R161). -/
def openTransaction (sel : Select) (s : State) : State :=
  match s.fourWire with
  | .idle =>
    { s with
      fourWire := .active
        { client := selectClient sel, bits := [], status := readyStatusByte (selectClient sel) s,
          response := none } }
  | .notReady _ => s
  | .active _ => s
  | .void => s

/-- A select becomes active while the other is: the port goes VOID, the transactions are voided and
COLLIDED is marked for clients 0 and 1; before ports ready SDO is released and nothing is marked
(R155, R161). -/
def collide (s : State) : State :=
  match s.fourWire with
  | .active _ => markCollided 1 (markCollided 0 { s with fourWire := .void })
  | .void => markCollided 1 (markCollided 0 s)
  | .notReady _ => { s with fourWire := .notReady true }
  | .idle => s

/-- The port after a select has been released with no select active any more: VOID returns to IDLE, and
NOT_READY leaves once ports are ready (R150, R161). -/
def bothInactive (s : State) : State :=
  match s.fourWire with
  | .void => { s with fourWire := .idle }
  | .notReady _ =>
    if s.phase = .running then { s with fourWire := .idle }
    else { s with fourWire := .notReady false }
  | .idle => s
  | .active _ => s

/-- A select is released after some more bits: the client's transaction ends, or the port waits for
the other select (R150, R153, R154, R155, R161). -/
def releaseSelect (sel : Select) (bits : List Bool) (s : State) : State :=
  match s.fourWire with
  | .active t =>
    if t.client = selectClient sel then
      let s := fourWireBits bits s
      let s := match s.fourWire with
        | .active t => endTransaction t { s with fourWire := .idle }
        | .notReady _ => s
        | .idle => s
        | .void => s
      s.setSelect sel false
    else s.setSelect sel false
  | .notReady _ =>
    let s := s.setSelect sel false
    if s.isActive (otherSelect sel) then s else bothInactive s
  | .idle => s.setSelect sel false
  | .void =>
    let s := s.setSelect sel false
    if s.isActive (otherSelect sel) then s else bothInactive s

/-! ## The two-wire port -/

/-- The client of a target address, once the port is ready (R156). -/
def clientOfAddress (a : BitVec 7) (o : Options) : Option ClientId :=
  if a.setWidth 8 = o.address2 then some 2
  else if a.setWidth 8 = o.address3 then some 3
  else none

/-- The address byte on the wire: seven address bits first, and the direction bit last, 1 for a read
(R156). -/
def busAddressByte (a : BitVec 7) (read : Bool) : Byte := a ++ BitVec.ofBool read

/-- The address that an address byte carries (R156). -/
def addressOfByte (b : Byte) : BitVec 7 := b.extractLsb' 1 7

/-- The direction that an address byte carries: a read (R156). -/
def directionOfByte (b : Byte) : Bool := bitOf b 0

/-- A START or a STOP, acted on by the state it finds: inside a frame the partial frame is discarded
and FRAME_ERR is marked (R159). The device drives SDA no more (R156). -/
def busCondition (condition : BusCondition) (s : State) : State :=
  let s := { s with sdaAck := false }
  let next : TwoWirePort := match condition with
    | .start => .address
    | .stop => .idle
  match s.twoWire with
  | .notReady _ => { s with twoWire := .notReady (condition == .start) }
  | .write c bytes placed =>
    let s := { s with twoWire := next }
    if placed || bytes.isEmpty then s else markFrameErr c s
  | .idle => { s with twoWire := next }
  | .address => { s with twoWire := next }
  | .read _ _ _ _ _ => { s with twoWire := next }
  | .ignoring => { s with twoWire := next }

/-- A byte is refused: it is not acknowledged and the port ignores the rest (R157). -/
def refuseByte (s : State) : State := { s with twoWire := .ignoring, sdaAck := false }

/-- A byte is acknowledged (R157). The state then stands in the ninth clock, with SDA low until the next START or
STOP, since no row ends that clock: the model's choice (log 30). -/
def acceptByte (c : ClientId) (bytes : List Byte) (placed : Bool) (s : State) : State :=
  { s with twoWire := .write c bytes placed, sdaAck := true }

/-- One data byte of a write (R157). -/
def writeByte (b : Byte) (s : State) : State :=
  match s.twoWire with
  | .write c bytes placed =>
    if placed then refuseByte s
    else
      match bytes with
      | [] =>
        if (s.client c).request.isNone then acceptByte c [b] false s
        else refuseByte (markDiscarded c s)
      | [kind] => acceptByte c [kind, b] false s
      | [kind, sequence] =>
        if b.toNat ≤ 64 then acceptByte c [kind, sequence, b] false s
        else refuseByte (markFrameErr c s)
      | kind :: sequence :: n :: params =>
        if params.length < n.toNat then acceptByte c (bytes ++ [b]) false s
        else if crc8 bytes = b then
          acceptByte c (bytes ++ [b]) true (placeFrame c { kind, sequence, params } s)
        else refuseByte (markFrameErr c s)
  | .notReady _ => s
  | .idle => s
  | .address => s
  | .read _ _ _ _ _ => s
  | .ignoring => { s with sdaAck := false }

/-- A START and an address byte. An address of the device is acknowledged, and the direction bit makes the
transaction a write or a read of the client whose address it is; any other is not, and the port ignores the
bus (R156). The state stands in the ninth clock of the address byte: the model's choice (log 30). -/
def addressByte (b : Byte) (write read : ClientId → State → State) (s : State) : State :=
  let s := busCondition .start s
  match s.twoWire with
  | .address =>
    match clientOfAddress (addressOfByte b) s.options with
    | some c => (if directionOfByte b then read else write) c { s with sdaAck := true }
    | none => { s with twoWire := .ignoring }
  | .notReady _ => s
  | .idle => s
  | .write _ _ _ => s
  | .read _ _ _ _ _ => s
  | .ignoring => s

/-- The data bytes of a write, after its address acknowledge (R157). -/
def receiveBytes (bytes : List Byte) (c : ClientId) (s : State) : State :=
  bytes.foldl (fun s b => writeByte b s) { s with twoWire := .write c [] false }

/-- A read, from its address acknowledge on: the status byte is sampled and the response frame taken there;
the marks carried are cleared once eight bits have been clocked out. The acknowledge is on SDA until the
first bit is (R156, R158), and the state stands with the next bit on SDA: the model's choice (log 30). -/
def sendBits (bits : Nat) (lastAcked : Bool) (c : ClientId) (s : State) : State :=
  let status := readyStatusByte c s
  let s :=
    { s with
      twoWire := .read c status (fetchFrame c s) bits (decide (8 ≤ bits) && !lastAcked)
      sdaAck := decide (bits = 0) }
  if 8 ≤ bits then clearCarried c status s else s

/-- A write transaction: START, address and data bytes (R156, R157). -/
def writeTransaction (a : BitVec 7) (bytes : List Byte) (s : State) : State :=
  addressByte (busAddressByte a false) (receiveBytes bytes) (sendBits 0 true) s

/-- A read transaction: START, address and the bits clocked out (R156, R158). -/
def readTransaction (a : BitVec 7) (bits : Nat) (lastAcked : Bool) (s : State) : State :=
  addressByte (busAddressByte a true) (receiveBytes []) (sendBits bits lastAcked) s

/-- Ports ready: the four-wire port is IDLE if both selects are inactive, and otherwise goes on as
before until they are; the two-wire port ignores a transaction in progress (R161). -/
def portsReady (s : State) : State :=
  { s with
    fourWire := match s.fourWire with
      | .notReady v => if s.selA || s.selB then .notReady v else .idle
      | .idle => .idle
      | .active t => .active t
      | .void => .void
    twoWire := match s.twoWire with
      | .notReady busy => if busy then .ignoring else .idle
      | .idle => .idle
      | .address => .address
      | .write c b p => .write c b p
      | .read c st f n e => .read c st f n e
      | .ignoring => .ignoring }

end Sys2Proof.Machine
end

