-- ==== Sys2Proof/Machine/ResetOps.lean ====
section
/-!
DEFINITION. A device reset, the movement of the supply through the levels that reset the device, and the
steps of the start sequence (R14, R161, R168, R172, R177, R178).
-/

namespace Sys2Proof.Machine

/-! ## Reset -/

/-- The two-wire port at a reset: NOT_READY, a transaction in progress on the bus being left to its
master (R161). -/
def TwoWirePort.atReset : TwoWirePort → TwoWirePort
  | .notReady busy => .notReady busy
  | .idle => .notReady false
  | .address => .notReady true
  | .write _ _ _ => .notReady true
  | .read _ _ _ _ _ => .notReady true
  | .ignoring => .notReady true

/-- A reset of any cause sets every block to its reset state and ends every operation in progress
(R177). What survives is what a reset does not reach: the two copies (R171, R175), the two records of
the cause (R168), and the levels at the pins. A transaction whose select is active ends, and SDO stays
released until a new one begins (R149, R161). -/
def deviceReset (s : State) : State :=
  let t := abandonStore s
  { State.reset with
    copyA := t.copyA
    copyB := t.copyB
    powerUpFlag := s.powerUpFlag
    collapseLatch := s.collapseLatch
    supplyUv := s.supplyUv
    resetn := s.resetn
    selA := s.selA
    selB := s.selB
    fourWire := .notReady (s.selA || s.selB)
    twoWire := s.twoWire.atReset
    rawInputs := s.rawInputs
    rawSync := s.rawSync
    freeCount := t.freeCount
    pending := s.pending }

/-- The supply rises from below 1.2 V: a POWER reset, and the power-up flag is set (R168, R177). -/
def powerUp (level : Nat) (s : State) : State :=
  if s.supplyUv < Config.retentionUv ∧ Config.retentionUv ≤ level then
    { deviceReset s with powerUpFlag := true }
  else s

/-- The supply falls below 2.40 V: a reset at once, and the collapse latch is set (R168, R177). -/
def collapse (level : Nat) (s : State) : State :=
  if level < Config.collapseUv ∧ Config.collapseUv ≤ s.supplyUv then
    { deviceReset s with collapseLatch := true }
  else s

/-- The supply falls below 1.2 V: the collapse latch is cleared, and the power-up flag is no longer
kept (R168, log 17). -/
def loseRecords (level : Nat) (s : State) : State :=
  if level < Config.retentionUv ∧ Config.retentionUv ≤ s.supplyUv then
    { s with
      collapseLatch := false, powerUpFlag := freeBool s.freeCount, freeCount := s.freeCount + 1 }
  else s

/-- The supply takes a new level, through the levels that reset the device (R168, R177). -/
def moveSupply (level : Nat) (s : State) : State :=
  { loseRecords level (collapse level (powerUp level s)) with supplyUv := level }

/-- RESETn has been low long enough (R177). -/
def pinReset (s : State) : State := { deviceReset s with resetn := .low }

/-! ## The start sequence -/

/-- The cause that the two records give (R168). -/
def resetCause (powerUpFlag collapseLatch : Bool) : ResetCause :=
  if powerUpFlag then .power else if collapseLatch then .supply else .pin

/-- The conditions under which a reset is released (R168, R177). -/
def releasable (level : Nat) (pin : PinLevel) (s : State) : Bool :=
  s.phase == .heldInReset && decide (Config.retentionUv ≤ s.supplyUv)
    && decide (Config.releaseUv < level) && pin == .high

/-- Step 1 of the start sequence: the lines are FLOAT and the ports NOT_READY as the reset left them;
the cause is recorded and its two records are cleared (R168, R178). -/
def startSequence (level : Nat) (s : State) : State :=
  { s with
    supplyUv := level
    resetn := .high
    lastReset := resetCause s.powerUpFlag s.collapseLatch
    powerUpFlag := false
    collapseLatch := false
    phase := .beforeOptionLoad }

/-- Step 2 of the start sequence, the option load (R171, R172). -/
def loadStep (s : State) : State :=
  let p := loadOptions s.copyA s.copyB
  { s with
    recordA := recordOf s.copyA
    recordB := recordOf s.copyB
    options := p.1
    optionStatus := p.2 }

/-- Step 3 of the start sequence: every line goes to its idle level (R178). -/
def idleStep (s : State) : State :=
  { s with lines := tabulate 8 fun l => { s.line l with level := s.idleLevel l } }

/-- The proving with which clock start begins: none with start clock BACKUP, which does not start the main
oscillator (R14). -/
def provingAtStart (choice : Oscillator) : Option Proving :=
  match choice with
  | .main => some { left := Config.startWindowCycles, edgeSeen := false, good := 0 }
  | .backup => none

/-- Steps 2 and 3 of the start sequence, after which clock start begins (R14, R172, R178, log 21). -/
def optionLoad (s : State) : State :=
  let t := idleStep (loadStep s)
  { t with
    phase := .beforeClockStart
    proving := provingAtStart t.options.startClock
    missingCycles := 0 }

/-- The clock state at the end of clock start: MAIN where 16384 consecutive good cycles have been counted
(R14). -/
def startedClock (proving : Option Proving) : ClockState :=
  if proving.any fun p => decide (Config.provingRun ≤ p.good) then .main else .backup

/-- Step 4 of the start sequence ends, and step 5 with it: ports ready (R14, R161, R178). -/
def clockStart (s : State) : State :=
  portsReady
    { s with
      clock := some (startedClock s.proving)
      restartProgress := 0
      startWindow := none
      missingCycles := 0
      proving := none
      divider := 0
      timebase := 0
      run := 0
      phase := .running }

end Sys2Proof.Machine
end

