-- ==== Sys2Proof/Machine/SupplyOps.lean ====
section
/-!
DEFINITION. The hold filter, and the entry and the exit of a supply hold (R162 to R164).
-/

namespace Sys2Proof.Machine

/-- The hold threshold in microvolts (R162). -/
def State.holdUv (s : State) : Nat := s.options.threshold.microvolts

/-- The exit level in microvolts (R162). -/
def State.exitUv (s : State) : Nat := s.holdUv + Config.hysteresisUv

/-- The supply is across the level that applies in the present state: below the threshold in NORMAL,
above the exit level in HOLD (R163, R164). -/
def State.supplyAcross (s : State) : Bool :=
  match s.supplyState with
  | .normal => decide (s.supplyUv < s.holdUv)
  | .hold => decide (s.exitUv < s.supplyUv)

/-- The monitor compares the supply: its filter begins, goes on, or is dropped (R163, R164). -/
def superviseSupply (s : State) : State :=
  { s with
    holdFilter :=
      if s.supplyAcross then some (s.holdFilter.getD s.run) else none }

/-- The filter has run its 20 ticks (R163, R164). -/
def State.holdFilterConfirmed (s : State) : Bool :=
  s.holdFilter.any fun latched => hasAdvanced s.run latched Config.holdFilterTicks

/-- Hold entry, in the order of R163. -/
def enterHold (s : State) : State :=
  postAll .supply (.supply .holdEntered)
    (parkLines { s with supplyState := .hold, holdFilter := none })

/-- Hold exit, in the order of R164. -/
def leaveHold (s : State) : State :=
  resolveLate
    (postAll .supply (.supply .holdLeft) { s with supplyState := .normal, holdFilter := none })

/-- Hold entry, when it is on offer. -/
def tryEnterHold (s : State) : State :=
  if s.supplyState = .normal ∧ s.holdFilterConfirmed then enterHold s else s

/-- Hold exit, when it is on offer. -/
def tryLeaveHold (s : State) : State :=
  if s.supplyState = .hold ∧ s.holdFilterConfirmed then leaveHold s else s

/-- The supply has crossed a level that does not reset the device: the monitor looks at it, once ticks
have begun (R162 to R164). A return that comes at the moment the filter has its 20 ticks, before the hold
event is taken, drops the filter: the model's choice (log 28). -/
def crossSupply (level : Nat) (s : State) : State :=
  let t := { s with supplyUv := level }
  if s.sampled then superviseSupply t else t

end Sys2Proof.Machine
end

