-- ==== Sys2Proof/Machine/ClockOps.lean ====
section
/-!
DEFINITION. The clock supervisor: the watch on the main oscillator, failover, the course and the ends of a
restart, and the proving of clock start (R8 to R14).
-/

namespace Sys2Proof.Machine

/-! ## The watch and the counts of cycles -/

/-- The main oscillator runs: in MAIN and RESTARTING, and while clock start proves it (R8, R14). -/
def State.mainRunning (s : State) : Bool :=
  match s.clock with
  | some c => c.mainRunning
  | none => s.proving.isSome

/-- The oscillator that drives the tick, once clock start has ended (R8). -/
def State.tickSource (s : State) : Option Oscillator := s.clock.map ClockState.tickSource

/-- The watch is on: in MAIN, and in a restart from the first main edge on (R9). -/
def State.mainWatched (s : State) : Bool :=
  match s.clock with
  | some .main => true
  | some .backup => false
  | some .restarting => s.startWindow.isNone
  | none => false

/-- A missing edge has occurred (R9). -/
def State.missingEdge (s : State) : Bool := decide (Config.missingEdgeCycles ≤ s.missingCycles)

/-- One backup cycle of clock start: it uses up the 10 ms, and after a main edge it counts towards a missing
edge, which returns the count of good cycles to 0; the counting goes on from the next edge (R14, log 8). -/
def provingBackupCycle (p : Proving) (s : State) : State :=
  if p.edgeSeen then
    if Config.missingEdgeCycles ≤ s.missingCycles + 1 then
      { s with missingCycles := 0
               proving := some { left := p.left - 1, edgeSeen := false, good := 0 } }
    else
      { s with missingCycles := s.missingCycles + 1, proving := some { p with left := p.left - 1 } }
  else { s with proving := some { p with left := p.left - 1 } }

/-- The watch counts a backup cycle without a main edge, up to the missing edge (R9). -/
def countSilence (s : State) : State :=
  { s with missingCycles := min (s.missingCycles + 1) Config.missingEdgeCycles }

/-- One cycle of the backup oscillator passes: the watch counts it, or the start window of a restart, or the
time for clock start (R9, R12, R14). -/
def backupCycle (s : State) : State :=
  match s.clock with
  | some .main => countSilence s
  | some .backup => s
  | some .restarting =>
    match s.startWindow with
    | some left => { s with startWindow := some (left - 1) }
    | none => countSilence s
  | none =>
    match s.proving with
    | some p => provingBackupCycle p s
    | none => s

/-- An edge of the main oscillator in a restart: the first ends the start window, and each one after it
completes a good cycle (R12). A missing edge that has occurred stands. -/
def restartEdge (s : State) : State :=
  match s.startWindow with
  | some _ => { s with startWindow := none, restartProgress := 0, missingCycles := 0 }
  | none =>
    if s.missingEdge then s
    else { s with restartProgress := min (s.restartProgress + 1) Config.provingRun, missingCycles := 0 }

/-- An edge of the main oscillator in clock start: the first begins the count, and each one after it
completes a good cycle (R14). -/
def Proving.edge (p : Proving) : Proving :=
  if p.edgeSeen then { p with good := min (p.good + 1) Config.provingRun } else { p with edgeSeen := true }

/-- One cycle of the main oscillator passes, if it runs (R8, R9, R12, R14). -/
def mainCycle (s : State) : State :=
  match s.clock with
  | some .main => if s.missingEdge then s else { s with missingCycles := 0 }
  | some .backup => s
  | some .restarting => restartEdge s
  | none => { s with missingCycles := 0, proving := s.proving.map Proving.edge }

/-- One cycle of an oscillator reaches the clock supervisor. -/
def superviseCycle (o : Oscillator) (s : State) : State :=
  match o with
  | .main => mainCycle s
  | .backup => backupCycle s

/-- The oscillator whose cycle passes next where no command says it: freely one of the two while the main
oscillator runs, else the backup oscillator (log 8). -/
def State.nextOscillator (s : State) : Oscillator :=
  if s.mainRunning && freeBool s.freeCount then .main else .backup

/-! ## Failover and restart -/

/-- A failover is on offer: a missing edge in MAIN (R9, R10). -/
def State.failoverDue (s : State) : Bool := s.clock == some .main && s.missingEdge

/-- Failover, in the order of R10: the state becomes BACKUP, and the CLOCK notice stands before those of
the strict entries. -/
def failover (s : State) : State :=
  if s.failoverDue then
    withdrawStrict
      (postAll .clock (.clock .backup) { s with clock := some .backup, missingCycles := 0 })
  else s

/-- The first main edge of a restart can come: the start window has cycles left (R12). -/
def State.firstEdgeDue (s : State) : Bool :=
  s.clock == some .restarting && s.startWindow.any fun left => decide (0 < left)

/-- The first main edge of a restart: the start window no longer applies (R12). -/
def firstMainEdge (s : State) : State := if s.firstEdgeDue then restartEdge s else s

/-- A restart ends in a clock state, and a CLOCK notice goes to every OPEN client (R12). -/
def endRestart (clock : ClockState) (detail : ClockDetail) (s : State) : State :=
  postAll .clock (.clock detail)
    { s with clock := some clock, restartProgress := 0, startWindow := none, missingCycles := 0 }

/-- The request that began the restart has been executed and not completed; the end of the restart comes
after its completion (R12). -/
def State.restoreUncompleted (s : State) : Bool :=
  s.engine.any fun j => j.frame.kind == 0x57 && j.outcome == some (.ok, [])

/-- The restart has its whole proving run (R12). -/
def State.restartProven (s : State) : Bool :=
  s.clock == some .restarting && s.startWindow.isNone
    && decide (Config.provingRun ≤ s.restartProgress)

/-- A missing edge has occurred after the first main edge of a restart (R9, R12). -/
def State.restartLost (s : State) : Bool :=
  s.clock == some .restarting && s.startWindow.isNone && s.missingEdge

/-- The start window has run out (R12). -/
def State.windowOver (s : State) : Bool :=
  s.clock == some .restarting && s.startWindow == some 0

/-- An end of a restart is on offer once the request that began it has completed (R12). -/
def ended (condition : State → Bool) (s : State) : Bool := condition s && !s.restoreUncompleted

/-- Success of a restart, when the progress has reached 16384 (R12). -/
def restartSuccess (s : State) : State :=
  if ended State.restartProven s then endRestart .main .main s else s

/-- Failure of a restart by a missing edge (R12). -/
def restartMissingEdge (s : State) : State :=
  if ended State.restartLost s then endRestart .backup .restoreFailed s else s

/-- Failure of a restart by the start window (R12). -/
def startWindowExpiry (s : State) : State :=
  if ended State.windowOver s then endRestart .backup .restoreFailed s else s

/-! ### The cycles that an event still lacks

Where the clock supervisor's command comes before its last cycle has passed, it brings the cycles that it
lacks (log 8). -/

/-- The backup cycles that a missing edge still lacks in a clock state, while the watch is on (R9). -/
def owedToMissingEdge (clock : ClockState) (s : State) : List Oscillator :=
  if s.clock = some clock ∧ s.mainWatched = true then
    List.replicate (Config.missingEdgeCycles - s.missingCycles) .backup
  else []

/-- The last main cycle of the proving run of a restart, when it is the one that the run lacks (R12). -/
def owedToProving (s : State) : List Oscillator :=
  if s.clock = some .restarting ∧ s.startWindow = none ∧ s.restartProgress + 1 = Config.provingRun then
    [.main]
  else []

/-- The backup cycles that the start window still has, when they pass without a tick (R1, R12). -/
def owedToWindow (s : State) : List Oscillator :=
  match s.startWindow with
  | some left =>
    if s.clock = some .restarting ∧ left + s.divider.val < Config.cyclesPerTick then
      List.replicate left .backup
    else []
  | none => []

/-- The completion of the request that began the restart, which the end of the restart follows (R12). -/
def completeRestore (s : State) : State := if s.restoreUncompleted then completeRequest s else s

/-! ## Clock start -/

/-- Clock start is over: at once with start clock BACKUP, and with MAIN at 16384 good cycles or when the
10 ms have passed (R14). -/
def State.clockStartOver (s : State) : Bool :=
  match s.proving with
  | some p => decide (Config.provingRun ≤ p.good) || p.left == 0
  | none => true

/-- One cycle of an oscillator during clock start; the cycles after its end are not of clock start. -/
def startCycle (s : State) (o : Oscillator) : State :=
  if s.clockStartOver then s else superviseCycle o s

/-- Clock start goes on for some cycles, and ends when it is over (R14). -/
def runClockStart (cycles : List Oscillator) (s : State) : State :=
  let t := cycles.foldl startCycle s
  if t.clockStartOver then clockStart t else s

end Sys2Proof.Machine
end

