-- ==== Sys2Proof/Machine/CaptureOps.lean ====
section
/-!
DEFINITION. The filters of IN0..IN3 and SYNC, accepted edges and their delivery (R27, R98 to R102, R108).
-/

namespace Sys2Proof.Machine

/-- The level opposite a level. -/
def otherLevel : PinLevel → PinLevel
  | .low => .high
  | .high => .low

/-- The edge that leaves a level: RISE from LOW, FALL from HIGH (R27, R99). -/
def edgeFrom : PinLevel → EdgeKind
  | .low => .rise
  | .high => .fall

/-- What is latched when a change is first seen (R99). -/
def latchNow (s : State) : Latch :=
  { run := s.run, stamp := s.timebase, timeState := s.timeState, quality := s.quality }

/-- One sample of one input: the first sets the filtered level (R98), each other one starts, drops or
keeps a pending change (R99). -/
def sampledInput (level : PinLevel) (r : Input) (s : State) : Input :=
  if s.sampled then
    if level = r.level then { r with pending := none }
    else { r with pending := some (r.pending.getD (latchNow s)) }
  else { r with level := level }

/-- One sample of SYNC, in the same way (R27). -/
def sampledSync (level : PinLevel) (s : State) : SyncFilter :=
  if s.sampled then
    if level = s.sync.level then { s.sync with pending := none }
    else { s.sync with pending := some (s.sync.pending.getD s.run) }
  else { s.sync with level := level }

/-- The samples of one tick (R2, R27, R98). -/
def sampleAll (levels : Vector PinLevel 4) (sync : PinLevel) (s : State) : State :=
  { s with
    inputs := tabulate 4 fun i => sampledInput levels[i.val] (s.input i) s
    sync := sampledSync sync s
    sampled := true
    rawInputs := levels
    rawSync := sync }

/-- The change pending on an input whose filter has run (R99). -/
def confirmedLatch (i : InputId) (s : State) : Option Latch :=
  (s.input i).pending.filter fun latch => hasAdvanced s.run latch.run (s.filterTicks i)

/-- The record of an accepted edge (R101 step 3). -/
def captureRecord (i : InputId) (edge : EdgeKind) (sequence : BitVec 16) (latch : Latch) :
    CaptureRecord :=
  .real i edge latch.stamp sequence (latch.timeState == .unset) (latch.quality == .degraded)

/-- A client's capture queue after an accepted edge (R101 step 4, R108). -/
def deliver (i : InputId) (edge : EdgeKind) (record : CaptureRecord) (r : Client) : Client :=
  match r.sub i with
  | some choice =>
    if choice.includes edge then { r with captures := placeCapture record r.captures } else r
  | none => r

/-- An accepted edge, in the order of R101. -/
def acceptEdge (i : InputId) (latch : Latch) (s : State) : State :=
  let r := s.input i
  let edge := edgeFrom r.level
  let sequence := r.sequence + 1
  let t := s.setInput i { level := otherLevel r.level, pending := none, sequence := sequence }
  { t with
    clients := tabulate 4 fun c =>
      deliver i edge (captureRecord i edge sequence latch) (s.client c) }

/-- The confirmation of an input's pending change, when its filter has run (R99, R101). -/
def tryAcceptEdge (i : InputId) (s : State) : State :=
  match confirmedLatch i s with
  | some latch => acceptEdge i latch s
  | none => s

/-- The run count latched by a pending change of SYNC whose filter has run (R27). -/
def confirmedSync (s : State) : Option Count :=
  s.sync.pending.filter fun latched => hasAdvanced s.run latched s.options.syncFilter

/-- The confirmation of a change of SYNC: the filtered level changes and the edge reaches the time
authority unit (R27, R30). -/
def trySyncEdge (s : State) : State :=
  match confirmedSync s with
  | some latched =>
    syncLoad (edgeFrom s.sync.level) (s.run - latched)
      { s with sync := { level := otherLevel s.sync.level, pending := none } }
  | none => s

end Sys2Proof.Machine
end

