-- ==== Sys2Proof/Machine/Settle.lean ====
section
/-!
DEFINITION. The events that the device takes by itself when they are due, each alone and all of them
before the next tick (log 2).
-/

namespace Sys2Proof.Machine

/-- The run count reaches the end time of a pulse in flight (R49). -/
def endPulse (l : LineId) (s : State) : State :=
  match (s.line l).pulse with
  | some p =>
    if p.endAt = s.run then s.setLine l { s.line l with level := p.returnLevel, pulse := none }
    else s
  | none => s

/-- The run count reaches the deadline of an OPEN client: teardown, then LAPSED (R116). -/
def expireKeepalive (c : ClientId) (s : State) : State :=
  match (s.client c).session with
  | .opened d => if d.deadline = s.run then teardown c .lapsed s else s
  | .closed => s
  | .lapsed => s

/-- The store whose 8000 ticks have passed (R174). -/
def State.storeDue (s : State) : Option StoreJob :=
  s.store.filter fun job => hasAdvanced s.run job.acceptedAt Config.storeTicks

/-- Store completion, when it is on offer, with the 32 bytes read back (R174, log 15). -/
def completeStore (readBack : List Byte) (s : State) : State :=
  match s.storeDue with
  | some job => if readBack.length = 32 then finishStore job readBack s else s
  | none => s

/-- Store completion with the bytes read back left open: those written, or any others (log 15). -/
def completeStoreFreely (s : State) : State :=
  match s.storeDue with
  | some job =>
    finishStore job
      (if freeBool s.freeCount then copyBytes job.image job.generation
       else freeBytes (s.freeCount + 1) 32)
      (s.useFree 33)
  | none => s

/-- The request held has reached its 25 ticks (R136). -/
def State.requestOverdue (s : State) : Bool :=
  s.engine.any fun j => hasAdvanced s.run j.takenAt Config.requestTicks

/-- The request held is executed, if it has not been, and completed (R134, R136, log 10). -/
def finishRequest (s : State) : State :=
  if s.requestOverdue then
    if s.engine.any fun j => j.outcome.isNone then completeRequest (executeHeld s)
    else completeRequest s
  else s

/-- An event that the device takes by itself. -/
inductive DueEvent where
  | acceptedEdge (input : InputId)
  | syncEdge
  | occurrence (slot : SlotId)
  | pulseEnd (line : LineId)
  | keepaliveExpiry (client : ClientId)
  | holdEntry
  | holdExit
  | storeCompletion
  | failover
  | restartSuccess
  | restartMissingEdge
  | startWindowExpiry
  | requestTake
  | request
  deriving DecidableEq, Repr

/-- Take an event, if it is still on offer. The end of a restart comes after the completion of the request
that began it (R12). -/
def DueEvent.run : DueEvent → State → State
  | .acceptedEdge i => tryAcceptEdge i
  | .syncEdge => trySyncEdge
  | .occurrence k => takeOccurrence k
  | .pulseEnd l => endPulse l
  | .keepaliveExpiry c => expireKeepalive c
  | .holdEntry => tryEnterHold
  | .holdExit => tryLeaveHold
  | .storeCompletion => completeStoreFreely
  | .failover => Machine.failover
  | .restartSuccess => fun s => Machine.restartSuccess (completeRestore s)
  | .restartMissingEdge => fun s => Machine.restartMissingEdge (completeRestore s)
  | .startWindowExpiry => fun s => Machine.startWindowExpiry (completeRestore s)
  | .requestTake => takeRequest
  | .request => finishRequest

/-- The engine is free and a request slot holds a frame (R135). -/
def State.takeDue (s : State) : Bool :=
  s.engine.isNone && s.phase == .running && (nextClient s).isSome

/-- A pulse is at its end time (R49). -/
def State.pulseDue (s : State) (l : LineId) : Bool :=
  (s.line l).pulse.any fun p => p.endAt == s.run

/-- A client is at its deadline (R116). -/
def State.keepaliveDue (s : State) (c : ClientId) : Bool :=
  (s.client c).session.data?.any fun d => d.deadline == s.run

/-- The events that are due in a state. -/
def dueEvents (s : State) : List DueEvent :=
  (allInputs.filter fun i => (confirmedLatch i s).isSome).map .acceptedEdge
    ++ (if (confirmedSync s).isSome then [.syncEdge] else [])
    ++ ((s.entries.filter fun p => isDue p.2 s).map fun p => .occurrence p.1)
    ++ (allLines.filter s.pulseDue).map .pulseEnd
    ++ (allClients.filter s.keepaliveDue).map .keepaliveExpiry
    ++ (if s.supplyState = .normal ∧ s.holdFilterConfirmed then [.holdEntry] else [])
    ++ (if s.supplyState = .hold ∧ s.holdFilterConfirmed then [.holdExit] else [])
    ++ (if s.storeDue.isSome then [.storeCompletion] else [])
    ++ (if s.failoverDue then [.failover] else [])
    ++ (if s.restartProven then [.restartSuccess] else [])
    ++ (if s.restartLost then [.restartMissingEdge] else [])
    ++ (if s.windowOver then [.startWindowExpiry] else [])
    ++ (if s.takeDue then [.requestTake] else [])
    ++ (if s.requestOverdue then [.request] else [])

/-- The engine takes what it can: four takes leave it busy or leave every request slot empty, since a
duplicate ends at its take (R135, R136). -/
def takeAll (s : State) : State := takeRequest (takeRequest (takeRequest (takeRequest s)))

/-- Every event that is due is taken, each whole, in a free order; an engine that is then free takes the
next frame at once (R135, log 2, log 10). -/
def settle (s : State) : State :=
  let due := dueEvents s
  takeAll ((freeOrder s.freeCount due).foldl (fun s e => e.run s) (s.useFree due.length))

/-! ## Oscillator cycles and ticks -/

/-- The tick: both counts rise by one and the divider returns to 0, and the inputs, SYNC and the supply are
sampled (R1, R2, R3, R27, R98, R162). A latch begun here carries the clock state of this moment: an event of
the clock supervisor whose last cycle issues the tick comes after the sample, and a restart's success that was
due before the cycle comes before it, which is the model's choice where R100 leaves the order open (log 8). -/
def tickCore (s : State) : State :=
  superviseSupply
    (sampleAll s.rawInputs s.rawSync
      { s with divider := 0, timebase := s.timebase + 1, run := s.run + 1 })

/-- One cycle of an oscillator: the clock supervisor counts it, and a cycle of the tick source advances the
divider, which issues a tick as it passes from 7 to 0 (R1). -/
def oscillatorCycle (o : Oscillator) (s : State) : State :=
  let t := superviseCycle o s
  if s.tickSource = some o then
    if t.divider = 7 then tickCore t else { t with divider := t.divider + 1 }
  else t

/-- One cycle of an oscillator passes while the device runs, after the events that were due. An oscillator
that is stopped gives no cycle (R8, log 2). -/
def passCycle (s : State) (o : Oscillator) : State :=
  if s.phase = .running then
    let t := settle s
    if o = .main ∧ t.mainRunning = false then t else oscillatorCycle o t
  else s

/-- Some cycles of the two oscillators pass, in their order (log 8). -/
def passCycles (cycles : List Oscillator) (s : State) : State := cycles.foldl passCycle s

/-- A tick, with the cycles up to it and beyond it, and the levels that the input pins show at it. Cycles in
which there is not exactly one tick are no tick (R1, R2, log 8); there are fewer than 2^48 of them, so that
the run count tells one tick from a whole turn of it. -/
def tick (cycles : List Oscillator) (pins : PinSample) (s : State) : State :=
  let t := passCycles cycles { s with rawInputs := pins.inputs, rawSync := pins.sync }
  if s.phase = .running ∧ cycles.length < 2 ^ 48 ∧ t.run = s.run + 1 then t else s

/-- An event of the clock supervisor: when it is on offer once the cycles that it still lacks have passed,
without a tick, they pass and it is taken (log 8). -/
def passTo (owed : List Oscillator) (offered : State → Bool) (event : State → State) (s : State) : State :=
  let t := passCycles owed s
  if t.run = s.run ∧ offered t = true then event t else s

/-- With no command queued, one cycle of an oscillator passes while the device runs or is in clock start,
with the input pins as they were last; clock start ends when it is over (R1, R14, log 3, log 8, log 18). -/
def idle (s : State) : State :=
  match s.phase with
  | .running =>
    let t := settle s
    oscillatorCycle t.nextOscillator (t.useFree 1)
  | .beforeClockStart =>
    if s.clockStartOver then clockStart s else superviseCycle s.nextOscillator (s.useFree 1)
  | .heldInReset => s
  | .beforeOptionLoad => s

end Sys2Proof.Machine
end

