-- ==== Sys2Proof/Machine/EventCommands.lean ====
section
/-!
DEFINITION. The commands that are events inside the device: the tick, edges, occurrences, pulse ends,
expiries, the clock supervisor, the supply monitor and store completion. A command whose event the
state does not offer leaves the state as it is (log 1).
-/

namespace Sys2Proof.Machine

/-- TICK (R1, R2, R3). -/
def execTick (cycles : List Oscillator) (pins : PinSample) (s : State) :
    Host.Outcome State Fault Refusal :=
  .next (tick cycles pins s)

/-- ACCEPTED_EDGE (R99, R101). -/
def execAcceptedEdge (input : InputId) (s : State) : Host.Outcome State Fault Refusal :=
  .next (tryAcceptEdge input s)

/-- SYNC_EDGE (R27, R30). -/
def execSyncEdge (s : State) : Host.Outcome State Fault Refusal := .next (trySyncEdge s)

/-- OCCURRENCE (R81). -/
def execOccurrence (slot : SlotId) (s : State) : Host.Outcome State Fault Refusal :=
  .next (takeOccurrence slot s)

/-- PULSE_END (R49). -/
def execPulseEnd (line : LineId) (s : State) : Host.Outcome State Fault Refusal :=
  .next (endPulse line s)

/-- KEEPALIVE_EXPIRY (R116). -/
def execKeepaliveExpiry (client : ClientId) (s : State) : Host.Outcome State Fault Refusal :=
  .next (expireKeepalive client s)

/-- FAILOVER (R9, R10). -/
def execFailover (s : State) : Host.Outcome State Fault Refusal :=
  .next (passTo (owedToMissingEdge .main s) State.failoverDue failover s)

/-- RESTART_SUCCESS (R12). -/
def execRestartSuccess (s : State) : Host.Outcome State Fault Refusal :=
  .next (passTo (owedToProving s) (ended State.restartProven) restartSuccess s)

/-- RESTART_MISSING_EDGE (R9, R12). -/
def execRestartMissingEdge (s : State) : Host.Outcome State Fault Refusal :=
  .next (passTo (owedToMissingEdge .restarting s) (ended State.restartLost) restartMissingEdge s)

/-- START_WINDOW_EXPIRY (R12). -/
def execStartWindowExpiry (s : State) : Host.Outcome State Fault Refusal :=
  .next (passTo (owedToWindow s) (ended State.windowOver) startWindowExpiry s)

/-- FIRST_MAIN_EDGE (R12). -/
def execFirstMainEdge (s : State) : Host.Outcome State Fault Refusal := .next (firstMainEdge s)

/-- SUPPLY_CROSSING: the supply moves above the reset threshold (R163, R164). -/
def execSupplyCrossing (microvolts : Nat) (s : State) : Host.Outcome State Fault Refusal :=
  .next
    (if Config.collapseUv ≤ microvolts ∧ Config.retentionUv ≤ s.supplyUv then
      crossSupply microvolts s
    else s)

/-- HOLD_ENTRY (R163). -/
def execHoldEntry (s : State) : Host.Outcome State Fault Refusal := .next (tryEnterHold s)

/-- HOLD_EXIT (R164). -/
def execHoldExit (s : State) : Host.Outcome State Fault Refusal := .next (tryLeaveHold s)

/-- STORE_COMPLETION (R174). -/
def execStoreCompletion (readBack : List Byte) (s : State) : Host.Outcome State Fault Refusal :=
  .next (completeStore readBack s)

end Sys2Proof.Machine
end

