-- ==== Sys2Proof/Machine/PortCommands.lean ====
section
/-!
DEFINITION. The commands of the two serial ports (R149 to R161). A command whose event the state does not
offer leaves the state as it is (log 1).
-/

namespace Sys2Proof.Machine

/-- SELECT_ACTIVE: a select becomes active while neither is (R150). -/
def execSelectActive (sel : Select) (s : State) : Host.Outcome State Fault Refusal :=
  .next
    (if s.isActive sel = false ∧ s.isActive (otherSelect sel) = false then
      openTransaction sel (s.setSelect sel true)
    else s)

/-- SELECT_COLLISION: a select becomes active while the other is (R155). -/
def execSelectCollision (sel : Select) (s : State) : Host.Outcome State Fault Refusal :=
  .next
    (if s.isActive sel = false ∧ s.isActive (otherSelect sel) = true then
      collide (s.setSelect sel true)
    else s)

/-- SELECT_RELEASE, after some SDI bits (R150, R153, R154). -/
def execSelectRelease (sel : Select) (bits : List Bool) (s : State) :
    Host.Outcome State Fault Refusal :=
  .next (if s.isActive sel = true then releaseSelect sel bits s else s)

/-- FETCH: the eighth bit of a first byte of 00h (R154). -/
def execFetch (s : State) : Host.Outcome State Fault Refusal := .next (completeFirstByte 0x00 s)

/-- STATUS_BYTE_SENT_WHOLE: the eighth bit of any other first byte (R152). -/
def execStatusByteSentWhole (firstByte : Byte) (s : State) : Host.Outcome State Fault Refusal :=
  .next (if firstByte = 0 then s else completeFirstByte firstByte s)

/-- TWO_WIRE_WRITE (R156, R157). -/
def execTwoWireWrite (address : BitVec 7) (bytes : List Byte) (s : State) :
    Host.Outcome State Fault Refusal :=
  .next (writeTransaction address bytes s)

/-- TWO_WIRE_READ (R156, R158). -/
def execTwoWireRead (address : BitVec 7) (bits : Nat) (lastAcked : Bool) (s : State) :
    Host.Outcome State Fault Refusal :=
  .next (readTransaction address bits lastAcked s)

/-- BUS_ERROR: a START or a STOP (R159). -/
def execBusError (condition : BusCondition) (s : State) : Host.Outcome State Fault Refusal :=
  .next (busCondition condition s)

end Sys2Proof.Machine
end

