-- ==== Sys2Proof/Machine/RequestCommands.lean ====
section
/-!
DEFINITION. The commands of the request engine: the take, the execution of the request held by its kind,
and the completion (R134 to R145). A request's row carries no operand: its parameters are in the frame
that the engine holds (log 9).
-/

namespace Sys2Proof.Machine

/-- REQUEST_TAKE (R134, R135, R145). -/
def execRequestTake (s : State) : Host.Outcome State Fault Refusal := .next (takeRequest s)

/-- REQUEST_COMPLETION (R134, R143). -/
def execRequestCompletion (s : State) : Host.Outcome State Fault Refusal :=
  .next (completeRequest s)

/-- UNKNOWN_KIND (R138). -/
def execUnknownKind (s : State) : Host.Outcome State Fault Refusal :=
  .next (runRequest (fun kind => !knownKind kind) requestUnknown s)

/-- OPEN, kind 10h (R114). -/
def execOpenSession (s : State) : Host.Outcome State Fault Refusal :=
  .next (runRequest (fun kind => kind == 0x10) requestOpen s)

/-- CLOSE, kind 11h (R120). -/
def execCloseSession (s : State) : Host.Outcome State Fault Refusal :=
  .next (runRequest (fun kind => kind == 0x11) requestClose s)

/-- HEARTBEAT, kind 12h (R118). -/
def execHeartbeat (s : State) : Host.Outcome State Fault Refusal :=
  .next (runRequest (fun kind => kind == 0x12) requestHeartbeat s)

/-- SET_ATTENTION, kind 13h (R119). -/
def execSetAttention (s : State) : Host.Outcome State Fault Refusal :=
  .next (runRequest (fun kind => kind == 0x13) requestSetAttention s)

/-- INFO, kind 14h (R146). -/
def execInfo (s : State) : Host.Outcome State Fault Refusal :=
  .next (runRequest (fun kind => kind == 0x14) requestInfo s)

/-- ACQUIRE, kind 20h (R37). -/
def execAcquire (s : State) : Host.Outcome State Fault Refusal :=
  .next (runRequest (fun kind => kind == 0x20) requestAcquire s)

/-- RELEASE, kind 21h (R41). -/
def execRelease (s : State) : Host.Outcome State Fault Refusal :=
  .next (runRequest (fun kind => kind == 0x21) requestRelease s)

/-- LEAVE_QUEUE, kind 22h (R42). -/
def execLeaveQueue (s : State) : Host.Outcome State Fault Refusal :=
  .next (runRequest (fun kind => kind == 0x22) requestLeaveQueue s)

/-- DRIVE, kind 23h (R44). -/
def execDrive (s : State) : Host.Outcome State Fault Refusal :=
  .next (runRequest (fun kind => kind == 0x23) requestDrive s)

/-- LINE_STATUS, kind 24h (R45). -/
def execLineStatus (s : State) : Host.Outcome State Fault Refusal :=
  .next (runRequest (fun kind => kind == 0x24) requestLineStatus s)

/-- SCHEDULE, kind 30h (R60). -/
def execSchedule (s : State) : Host.Outcome State Fault Refusal :=
  .next (runRequest (fun kind => kind == 0x30) requestSchedule s)

/-- BATCH, kind 31h (R61). -/
def execBatch (s : State) : Host.Outcome State Fault Refusal :=
  .next (runRequest (fun kind => kind == 0x31) requestBatch s)

/-- CANCEL, kind 32h (R64). -/
def execCancel (s : State) : Host.Outcome State Fault Refusal :=
  .next (runRequest (fun kind => kind == 0x32) requestCancel s)

/-- CANCEL_LINE, kind 33h (R65). -/
def execCancelLine (s : State) : Host.Outcome State Fault Refusal :=
  .next (runRequest (fun kind => kind == 0x33) requestCancelLine s)

/-- QUERY_ENTRY, kind 34h (R66). -/
def execQueryEntry (s : State) : Host.Outcome State Fault Refusal :=
  .next (runRequest (fun kind => kind == 0x34) requestQueryEntry s)

/-- LIST_ENTRIES, kind 35h (R67). -/
def execListEntries (s : State) : Host.Outcome State Fault Refusal :=
  .next (runRequest (fun kind => kind == 0x35) requestListEntries s)

/-- SUBSCRIBE, kind 40h (R104). -/
def execSubscribe (s : State) : Host.Outcome State Fault Refusal :=
  .next (runRequest (fun kind => kind == 0x40) requestSubscribe s)

/-- UNSUBSCRIBE, kind 41h (R105). -/
def execUnsubscribe (s : State) : Host.Outcome State Fault Refusal :=
  .next (runRequest (fun kind => kind == 0x41) requestUnsubscribe s)

/-- TAKE_CAPTURES, kind 42h (R109). -/
def execTakeCaptures (s : State) : Host.Outcome State Fault Refusal :=
  .next (runRequest (fun kind => kind == 0x42) requestTakeCaptures s)

/-- TAKE_NOTICES, kind 48h (R128). -/
def execTakeNotices (s : State) : Host.Outcome State Fault Refusal :=
  .next (runRequest (fun kind => kind == 0x48) requestTakeNotices s)

/-- READ_TIME, kind 50h (R15). -/
def execReadTime (s : State) : Host.Outcome State Fault Refusal :=
  .next (runRequest (fun kind => kind == 0x50) requestReadTime s)

/-- CLAIM_AUTHORITY, kind 51h (R19). -/
def execClaimAuthority (s : State) : Host.Outcome State Fault Refusal :=
  .next (runRequest (fun kind => kind == 0x51) requestClaimAuthority s)

/-- YIELD_AUTHORITY, kind 52h (R20). -/
def execYieldAuthority (s : State) : Host.Outcome State Fault Refusal :=
  .next (runRequest (fun kind => kind == 0x52) requestYieldAuthority s)

/-- SET_TIME, kind 53h (R24). -/
def execSetTime (s : State) : Host.Outcome State Fault Refusal :=
  .next (runRequest (fun kind => kind == 0x53) requestSetTime s)

/-- SHIFT, kind 54h (R25). -/
def execShift (s : State) : Host.Outcome State Fault Refusal :=
  .next (runRequest (fun kind => kind == 0x54) requestShift s)

/-- ARM_SYNC, kind 55h (R28). -/
def execArmSync (s : State) : Host.Outcome State Fault Refusal :=
  .next (runRequest (fun kind => kind == 0x55) requestArmSync s)

/-- DISARM_SYNC, kind 56h (R29). -/
def execDisarmSync (s : State) : Host.Outcome State Fault Refusal :=
  .next (runRequest (fun kind => kind == 0x56) requestDisarmSync s)

/-- RESTORE_CLOCK, kind 57h (R11). -/
def execRestoreClock (s : State) : Host.Outcome State Fault Refusal :=
  .next (runRequest (fun kind => kind == 0x57) requestRestoreClock s)

/-- READ_OPTIONS, kind 60h (R176). -/
def execReadOptions (s : State) : Host.Outcome State Fault Refusal :=
  .next (runRequest (fun kind => kind == 0x60) requestReadOptions s)

/-- STORE_OPTIONS, kind 61h (R173). -/
def execStoreOptions (s : State) : Host.Outcome State Fault Refusal :=
  .next (runRequest (fun kind => kind == 0x61) requestStoreOptions s)

end Sys2Proof.Machine
end

