-- ==== Sys2Proof/Machine/StartCommands.lean ====
section
/-!
DEFINITION. The commands that reset the device and those of the start sequence. A command whose event the
state does not offer leaves the state as it is (log 1).
-/

namespace Sys2Proof.Machine

/-- POWER_RESET: the supply rises from below 1.2 V (R168, R177). -/
def execPowerReset (microvolts : Nat) (s : State) : Host.Outcome State Fault Refusal :=
  .next
    (if s.supplyUv < Config.retentionUv ∧ Config.retentionUv ≤ microvolts then
      moveSupply microvolts s
    else s)

/-- SUPPLY_COLLAPSE: the supply falls below 2.40 V (R168, R177). -/
def execSupplyCollapse (microvolts : Nat) (s : State) : Host.Outcome State Fault Refusal :=
  .next
    (if microvolts < Config.collapseUv ∧ Config.collapseUv ≤ s.supplyUv then
      moveSupply microvolts s
    else s)

/-- SUPPLY_FALLING_BELOW_1V2 (R168). -/
def execSupplyFallingBelow1V2 (microvolts : Nat) (s : State) : Host.Outcome State Fault Refusal :=
  .next
    (if microvolts < Config.retentionUv ∧ Config.retentionUv ≤ s.supplyUv then
      moveSupply microvolts s
    else s)

/-- PIN_RESET: RESETn has been low for so many backup cycles (R177). -/
def execPinReset (lowCycles : Nat) (s : State) : Host.Outcome State Fault Refusal :=
  .next (if Config.resetLowCycles ≤ lowCycles then pinReset s else s)

/-- START_SEQUENCE: the reset is released (R168, R177, R178). -/
def execStartSequence (microvolts : Nat) (resetn : PinLevel) (s : State) :
    Host.Outcome State Fault Refusal :=
  .next (if releasable microvolts resetn s then startSequence microvolts s else s)

/-- OPTION_LOAD (R172, R178). -/
def execOptionLoad (s : State) : Host.Outcome State Fault Refusal :=
  .next (if s.phase = .beforeOptionLoad then optionLoad s else s)

/-- CLOCK_START (R14, R161, R178). -/
def execClockStart (cycles : List Oscillator) (s : State) : Host.Outcome State Fault Refusal :=
  .next (if s.phase = .beforeClockStart then runClockStart cycles s else s)

end Sys2Proof.Machine
end

