-- ==== Sys2Proof/Machine/Dispatch.lean ====
section
/-!
DEFINITION. One arm for each command.
-/

namespace Sys2Proof.Machine

/-- The effect of a command on everything but the queue. -/
def exec (i : Instr) (s : State) : Host.Outcome State Fault Refusal :=
  match i with
  | .tick cycles pins => Sys2Proof.Machine.execTick cycles pins s
  | .acceptedEdge input => Sys2Proof.Machine.execAcceptedEdge input s
  | .syncEdge => Sys2Proof.Machine.execSyncEdge s
  | .occurrence slot => Sys2Proof.Machine.execOccurrence slot s
  | .pulseEnd line => Sys2Proof.Machine.execPulseEnd line s
  | .keepaliveExpiry client => Sys2Proof.Machine.execKeepaliveExpiry client s
  | .failover => Sys2Proof.Machine.execFailover s
  | .restartSuccess => Sys2Proof.Machine.execRestartSuccess s
  | .restartMissingEdge => Sys2Proof.Machine.execRestartMissingEdge s
  | .startWindowExpiry => Sys2Proof.Machine.execStartWindowExpiry s
  | .supplyCrossing microvolts => Sys2Proof.Machine.execSupplyCrossing microvolts s
  | .holdEntry => Sys2Proof.Machine.execHoldEntry s
  | .holdExit => Sys2Proof.Machine.execHoldExit s
  | .storeCompletion readBack => Sys2Proof.Machine.execStoreCompletion readBack s
  | .powerReset microvolts => Sys2Proof.Machine.execPowerReset microvolts s
  | .supplyCollapse microvolts => Sys2Proof.Machine.execSupplyCollapse microvolts s
  | .pinReset lowCycles => Sys2Proof.Machine.execPinReset lowCycles s
  | .startSequence microvolts resetn => Sys2Proof.Machine.execStartSequence microvolts resetn s
  | .optionLoad => Sys2Proof.Machine.execOptionLoad s
  | .clockStart cycles => Sys2Proof.Machine.execClockStart cycles s
  | .requestTake => Sys2Proof.Machine.execRequestTake s
  | .requestCompletion => Sys2Proof.Machine.execRequestCompletion s
  | .unknownKind => Sys2Proof.Machine.execUnknownKind s
  | .openSession => Sys2Proof.Machine.execOpenSession s
  | .closeSession => Sys2Proof.Machine.execCloseSession s
  | .heartbeat => Sys2Proof.Machine.execHeartbeat s
  | .setAttention => Sys2Proof.Machine.execSetAttention s
  | .info => Sys2Proof.Machine.execInfo s
  | .acquire => Sys2Proof.Machine.execAcquire s
  | .release => Sys2Proof.Machine.execRelease s
  | .leaveQueue => Sys2Proof.Machine.execLeaveQueue s
  | .drive => Sys2Proof.Machine.execDrive s
  | .lineStatus => Sys2Proof.Machine.execLineStatus s
  | .schedule => Sys2Proof.Machine.execSchedule s
  | .batch => Sys2Proof.Machine.execBatch s
  | .cancel => Sys2Proof.Machine.execCancel s
  | .cancelLine => Sys2Proof.Machine.execCancelLine s
  | .queryEntry => Sys2Proof.Machine.execQueryEntry s
  | .listEntries => Sys2Proof.Machine.execListEntries s
  | .subscribe => Sys2Proof.Machine.execSubscribe s
  | .unsubscribe => Sys2Proof.Machine.execUnsubscribe s
  | .takeCaptures => Sys2Proof.Machine.execTakeCaptures s
  | .takeNotices => Sys2Proof.Machine.execTakeNotices s
  | .readTime => Sys2Proof.Machine.execReadTime s
  | .claimAuthority => Sys2Proof.Machine.execClaimAuthority s
  | .yieldAuthority => Sys2Proof.Machine.execYieldAuthority s
  | .setTime => Sys2Proof.Machine.execSetTime s
  | .shift => Sys2Proof.Machine.execShift s
  | .armSync => Sys2Proof.Machine.execArmSync s
  | .disarmSync => Sys2Proof.Machine.execDisarmSync s
  | .restoreClock => Sys2Proof.Machine.execRestoreClock s
  | .readOptions => Sys2Proof.Machine.execReadOptions s
  | .storeOptions => Sys2Proof.Machine.execStoreOptions s
  | .selectActive sel => Sys2Proof.Machine.execSelectActive sel s
  | .selectCollision sel => Sys2Proof.Machine.execSelectCollision sel s
  | .selectRelease sel bits => Sys2Proof.Machine.execSelectRelease sel bits s
  | .fetch => Sys2Proof.Machine.execFetch s
  | .twoWireWrite address bytes => Sys2Proof.Machine.execTwoWireWrite address bytes s
  | .twoWireRead address bits lastAcked => Sys2Proof.Machine.execTwoWireRead address bits lastAcked s
  | .busError condition => Sys2Proof.Machine.execBusError condition s
  | .firstMainEdge => Sys2Proof.Machine.execFirstMainEdge s
  | .statusByteSentWhole firstByte => Sys2Proof.Machine.execStatusByteSentWhole firstByte s
  | .supplyFallingBelow1V2 microvolts => Sys2Proof.Machine.execSupplyFallingBelow1V2 microvolts s

end Sys2Proof.Machine
end

