-- ==== Sys2Proof/Machine/Step.lean ====
section
/-!
DEFINITION. One step: the command at the front of the queue, or, with none queued, the passing of time
(log 3).
-/

namespace Sys2Proof.Machine

/-- Take the command at the front of the queue and execute it with the queue's rest; with an empty
queue one oscillator cycle passes (log 3). -/
def step (s : State) : Host.Outcome State Fault Refusal :=
  match s.pending with
  | c :: rest => exec c { s with pending := rest }
  | [] => .next (idle s)

/-- The state with the command that a table word spells at the front of the queue. No row of the table
gives bits, so no word spells a command, and the state is unchanged. -/
def State.withFetchWord (s : State) (nbits w : Nat) : State :=
  match decodeTableWord nbits w with
  | some c => { s with pending := c :: s.pending }
  | none => s

end Sys2Proof.Machine
end

