-- ==== Sys2Proof/Safety.lean ====
section
/-!
DEFINITION. The conditions that the specification says the device keeps, as invariants of the state. Each
is a list of named facts about every state that a step can reach.
-/

namespace Sys2Proof.Machine

/-- What a client holds, it holds while OPEN; a line, its wait list and its entries agree (R18, R36, R54,
R103, R121). -/
structure Owned (s : State) : Prop where
  /-- The authority holder is OPEN (R18). -/
  authority : ∀ c, s.authority = some c → s.isOpen c = true
  /-- A load is armed only while the authority is held (R18). -/
  armed : s.armed.isSome = true → s.authority.isSome = true
  /-- A line's holder is OPEN (R121). -/
  holders : ∀ l lease, (s.line l).lease = some lease → s.isOpen lease.client = true
  /-- A waiter is OPEN (R36). -/
  waiters : ∀ l w, w ∈ (s.line l).waiters → s.isOpen w.client = true
  /-- A wait list is non-empty only on a HELD line (R36). -/
  waitersOnHeld : ∀ l, (s.line l).lease = none → (s.line l).waiters = []
  /-- A wait list holds distinct clients (R36). -/
  distinct : ∀ l, ((s.line l).waiters.map Waiter.client).Nodup
  /-- A wait list holds at most 3 waiters (R36). -/
  atMostThree : ∀ l, (s.line l).waiters.length ≤ 3
  /-- A line's holder never stands in that line's wait list (R36). -/
  holderNotWaiting : ∀ l c, (s.line l).heldBy c = true → (s.line l).awaitedBy c = false
  /-- An entry's line is held by the entry's owner (R54). -/
  entries : ∀ k e, s.slot k = some e → (s.line e.body.line).heldBy e.owner = true
  /-- A client that is not OPEN has no subscription (R103). -/
  subscriptions : ∀ c i, s.isOpen c = false → (s.client c).sub i = none
  /-- A client that is not OPEN has empty queues and no lost flag (R121). -/
  queues : ∀ c, s.isOpen c = false →
    (s.client c).notices = [] ∧ (s.client c).captures = [] ∧ (s.client c).lost = false

/-- Two gap records never stand side by side (R108). -/
def noAdjacentGaps : List CaptureRecord → Bool
  | [] => true
  | [_] => true
  | a :: b :: rest => !(a.isGap && b.isGap) && noAdjacentGaps (b :: rest)

/-- A queue's newest record is a gap record (R108). -/
def newestIsGap (q : List CaptureRecord) : Bool := q.getLast?.any CaptureRecord.isGap

/-- The queues keep their bounds (R108, R124, R125). -/
structure QueuesBounded (s : State) : Prop where
  /-- At most 12 notice records (R125). -/
  notices : ∀ c, (s.client c).notices.length ≤ 12
  /-- Never two notice records with the same kind and subject (R125). -/
  keys : ∀ c, ((s.client c).notices.map fun n => (n.kind, n.subject)).Nodup
  /-- A notice record stands for 1..255 postings (R124). -/
  repeats : ∀ c n, n ∈ (s.client c).notices → 1 ≤ n.repeats ∧ n.repeats ≤ 255
  /-- At most 16 capture records (R108). -/
  captures : ∀ c, (s.client c).captures.length ≤ 16
  /-- A queue of 16 capture records has a gap record as its newest (R108). -/
  sixteenth : ∀ c, (s.client c).captures.length = 16 → newestIsGap (s.client c).captures = true
  /-- Never two gap records next to each other (R108). -/
  gaps : ∀ c, noAdjacentGaps (s.client c).captures = true
  /-- A gap record stands for 1..65535 captures (R107). -/
  lost : ∀ c n, CaptureRecord.gap n ∈ (s.client c).captures → 1 ≤ n ∧ n ≤ 65535

/-- Every entry has the handle of its slot, and fields in the ranges of its record (R55, R57). -/
structure EntriesNamed (s : State) : Prop where
  /-- The handle is that of the slot with its use count, which is not 0 (R57). -/
  handle : ∀ k e, s.slot k = some e → e.handle = handleOf k (s.useCount k) ∧ s.useCount k ≠ 0
  /-- A repeat period is at least 100 ticks, and a repeat count at least 1 (R55). -/
  repeats : ∀ k e r, s.slot k = some e → e.body.rep = some r →
    100 ≤ r.period.toNat ∧ ∀ n, r.count = .times n → 1 ≤ n
  /-- A pulse width is at least 1 tick (R55). -/
  width : ∀ k e v w, s.slot k = some e → e.body.action = .pulse v w → 1 ≤ w.toNat

/-- The levels that FREE lines and, in a supply hold, HELD lines rest at (R33, R35, R53). -/
structure LinesRest (s : State) : Prop where
  /-- A FREE line is at its idle level once step 3 of the start sequence is over (R35). -/
  free : s.phase = .beforeClockStart ∨ s.phase = .running →
    ∀ l, (s.line l).lease = none → (s.line l).level = s.idleLevel l
  /-- A FREE line has no pulse in flight (R41, R50). -/
  noPulse : ∀ l, (s.line l).lease = none → (s.line l).pulse = none
  /-- During a supply hold every HELD line is at its park level, with no pulse in flight (R35, R53). -/
  held : s.supplyState = .hold → ∀ l lease, (s.line l).lease = some lease →
    (s.line l).level = lease.park ∧ (s.line l).pulse = none
  /-- Before ports ready no line is HELD, no sample has been taken and no hold is in force (R162,
  R178). -/
  starting : s.phase ≠ .running →
    s.supplyState = .normal ∧ s.holdFilter = none ∧ s.sampled = false
      ∧ ∀ l, (s.line l).lease = none
  /-- From a reset until step 3 of the start sequence every line is at FLOAT (R33, R34, R178). -/
  floating : s.phase = .heldInReset ∨ s.phase = .beforeOptionLoad →
    ∀ l, (s.line l).level = .float

/-- A PENDING slot is that of the request the engine holds, so at most one slot is PENDING (R141). -/
def PendingIsHeld (s : State) : Prop :=
  ∀ c q k, (s.client c).response = .pending q k →
    ∃ j, s.engine = some j ∧ j.client = c ∧ j.frame.sequence = q ∧ j.frame.kind = k

/-- A keepalive deadline is ahead by no more than the keepalive period, which lies in its range (R114,
R115); no session is OPEN before ports ready (R178). -/
structure DeadlinesAhead (s : State) : Prop where
  /-- The period is 10..60000 ms (R112). -/
  period : ∀ c d, (s.client c).session = .opened d → 10 ≤ d.period ∧ d.period ≤ 60000
  /-- The deadline is ahead by at most the period (R115). -/
  ahead : ∀ c d, (s.client c).session = .opened d →
    distanceAhead d.deadline s.run ≤ d.period * 1000
  /-- Before ports ready every session is CLOSED (R178). -/
  starting : s.phase ≠ .running → ∀ c, (s.client c).session = .closed

/-- The request the engine holds was taken at most 25 ticks ago (R136), none is held before ports ready
(R178), and a client that the free engine has chosen still has its frame (R135). -/
structure EngineInTime (s : State) : Prop where
  /-- At most 25 ticks have passed since the take (R136). -/
  bound : ∀ j, s.engine = some j → distanceAhead s.run j.takenAt ≤ 25
  /-- Before ports ready no request is taken (R178). -/
  starting : s.phase ≠ .running → s.engine = none
  /-- Only a free engine has chosen, and only a slot that holds a frame (R135, log 25). -/
  chosen : ∀ c, s.choice = some c → s.engine = none ∧ (s.client c).request.isSome = true

/-- No strict entry stands in the calendar while the quality is DEGRADED (R76), and the calendar is empty
before ports ready (R178). -/
structure StrictNeedsNominal (s : State) : Prop where
  /-- Strict entries stand only under NOMINAL quality (R76). -/
  strict : s.quality = .degraded → ∀ k e, s.slot k = some e → e.body.strict = false
  /-- Before ports ready the calendar is empty (R178). -/
  starting : s.phase ≠ .running → ∀ k, s.slot k = none

/-- Every due of the calendar lies ahead of the timebase count, by at most 2^40 ticks (R59, R78). -/
def DuesAhead (s : State) : Prop :=
  ∀ k e, s.slot k = some e → distanceAhead e.body.due s.timebase ≤ 2 ^ 40

/-- A client's entry count never exceeds its share (R58), and the calendar is empty before ports ready
(R178). -/
structure SharesKept (s : State) : Prop where
  /-- The entry count lies within the share (R58). -/
  share : ∀ c, s.entryCount c ≤ s.share c
  /-- Before ports ready the calendar is empty (R178). -/
  starting : s.phase ≠ .running → ∀ k, s.slot k = none

/-- While a store is in progress the record of its target copy is not good (R173, R174), and before ports
ready no store is in progress (R175, R178). -/
structure TargetNotGood (s : State) : Prop where
  /-- The record of the copy being written is not good (R173). -/
  target : ∀ job, s.store = some job →
    (job.target = .a → s.recordA.good = false) ∧ (job.target = .b → s.recordB.good = false)
  /-- Before ports ready no store is in progress (R175, R178). -/
  starting : s.phase ≠ .running → s.store = none

/-! ## Words of the statements -/

/-- The engine holds a request of a kind with some parameters, taken and not yet executed (R134). -/
abbrev Executing (s : State) (j : EngineJob) (kind : Byte) (params : List Byte) : Prop :=
  s.engine = some j ∧ j.outcome = none ∧ j.frame.kind = kind ∧ j.frame.params = params
    ∧ s.phase = .running

/-- The state with nothing changed but the status and the result that the execution of the request held
has yielded. -/
def State.replied (s : State) (j : EngineJob) (status : Status) (result : List Byte) : State :=
  { s with engine := some { j with outcome := some (status, result) } }

/-- The options whose fields other than the two addresses lie in their ranges (R170, R171). -/
structure FieldsInRange (o : Options) : Prop where
  /-- Each share is at most 64. -/
  share : ∀ c : ClientId, o.shares[c.val] ≤ 64
  /-- The shares sum to at most 64. -/
  sum : o.shares[0] + o.shares[1] + o.shares[2] + o.shares[3] ≤ 64
  /-- Each input filter is at most 255 ticks. -/
  filters : ∀ i : InputId, o.filters[i.val] ≤ 255
  /-- The SYNC filter is at most 255 ticks. -/
  syncFilter : o.syncFilter ≤ 255

/-- The valid entries of R56, but for the ranges that their types give. -/
structure BookingInRange (b : Booking) : Prop where
  /-- A pulse width is 1..65535 ticks. -/
  width : ∀ v w, b.action = .pulse v w → 1 ≤ w.toNat
  /-- A repeat has a period of at least 100 ticks and a count of 2..65535 or UNLIMITED. -/
  rep : ∀ r, b.rep = some r →
    100 ≤ r.period.toNat ∧ ∀ n, r.count = .times n → 2 ≤ n ∧ n ≤ 65535
  /-- A PULSE entry with a repeat has a period greater than its pulse width. -/
  fits : ∀ v w r, b.action = .pulse v w → b.rep = some r → w.toNat < r.period.toNat

/-- The oscillator drives the tick (R8). -/
def Drives (o : Oscillator) (s : State) : Prop :=
  o = .main ∧ s.clock = some .main
    ∨ o = .backup ∧ (s.clock = some .backup ∨ s.clock = some .restarting)

/-- What one cycle of an oscillator does to the counts of the clock supervisor while the device runs, from
a state in which the supervisor has no event due (R9, R12, R17). -/
structure CycleCounted (o : Oscillator) (s t : State) : Prop where
  /-- A main edge in MAIN ends the silence that the watch counts (R9). -/
  mainEdge : o = .main → s.clock = some .main → t.missingCycles = 0
  /-- The first main edge of a restart ends the start window (R12). -/
  firstEdge : o = .main → s.clock = some .restarting → s.startWindow ≠ none →
    t.startWindow = none ∧ t.restartProgress = 0 ∧ t.missingCycles = 0
  /-- Each main cycle after it raises the restart progress by one (R12). -/
  goodCycle : o = .main → s.clock = some .restarting → s.startWindow = none →
    t.startWindow = none ∧ t.restartProgress = s.restartProgress + 1 ∧ t.missingCycles = 0
  /-- A backup cycle counts towards a missing edge, in MAIN and after the first main edge (R9). -/
  silence : o = .backup → s.clock = some .main ∨ s.clock = some .restarting → s.startWindow = none →
    t.startWindow = none ∧ t.restartProgress = s.restartProgress
      ∧ t.missingCycles = s.missingCycles + 1
  /-- Before the first main edge it shortens the start window, and the watch is off (R9, R12). -/
  window : ∀ left, o = .backup → s.clock = some .restarting → s.startWindow = some left →
    t.startWindow = some (left - 1) ∧ t.restartProgress = s.restartProgress
      ∧ t.missingCycles = s.missingCycles
  /-- In BACKUP the main oscillator is not watched (R9). -/
  stopped : o = .backup → s.clock = some .backup →
    t.restartProgress = s.restartProgress ∧ t.missingCycles = s.missingCycles

/-- What one cycle of an oscillator does during clock start with start clock MAIN (R9, R14); that a main
edge after a missing edge begins the count anew, as the first did, is deduced (log 8). -/
structure StartCycleCounted (o : Oscillator) (p : Proving) (s t : State) : Prop where
  /-- The first main edge begins the count. -/
  firstEdge : o = .main → p.edgeSeen = false →
    t = { s with proving := some { p with edgeSeen := true }, missingCycles := 0 }
  /-- Each main cycle after it is a good one. -/
  goodCycle : o = .main → p.edgeSeen = true →
    t = { s with proving := some { p with good := p.good + 1 }, missingCycles := 0 }
  /-- A backup cycle uses up the 10 ms, and before a main edge nothing else. -/
  unwatched : o = .backup → p.edgeSeen = false →
    t = { s with proving := some { p with left := p.left - 1 } }
  /-- After it the backup cycle counts towards a missing edge. -/
  silence : o = .backup → p.edgeSeen = true → s.missingCycles < 3 →
    t = { s with proving := some { p with left := p.left - 1 }, missingCycles := s.missingCycles + 1 }
  /-- The fourth is a missing edge, which returns the count to 0. -/
  missing : o = .backup → p.edgeSeen = true → s.missingCycles = 3 →
    t = { s with proving := some { left := p.left - 1, edgeSeen := false, good := 0 },
                 missingCycles := 0 }

/-- The client that round-robin order gives among the slots that hold a frame, from the one after the
pointer on; none where every slot is empty (R135). -/
def FirstWaiting (s : State) (next : Option ClientId) : Prop :=
  next = none ∧ (∀ c, (s.client c).request = none)
    ∨ ∃ n, n < 4 ∧ next = some (s.pointer + 1 + Fin.ofNat 4 n)
        ∧ (s.client (s.pointer + 1 + Fin.ofNat 4 n)).request ≠ none
        ∧ ∀ m, m < n → (s.client (s.pointer + 1 + Fin.ofNat 4 m)).request = none

/-- Bookings each of which passes its checks with the earlier ones inserted, the state with all of them
inserted, and their handles in order (R61, R62). -/
inductive BookedInTurn (c : ClientId) : List Booking → State → State → List Handle → Prop where
  /-- No booking. -/
  | nil (s : State) : BookedInTurn c [] s s []
  /-- A first booking that passes, and the others after it. -/
  | cons (b : Booking) (bs : List Booking) (s t : State) (handles : List Handle) :
      bookingStatus c b s = none → BookedInTurn c bs (bookEntry c b s).1 t handles →
      BookedInTurn c (b :: bs) s t ((bookEntry c b s).2 :: handles)

/-- The line of a departing client, or one on which it waits, before and after its teardown (R50, R121
steps 3 and 5). -/
def DepartedLine (c : ClientId) (supply : SupplyState) (idle : Level) (before after : Line) : Prop :=
  match before.lease with
  | some lease =>
    if lease.client = c then
      match before.waiters.filter fun w => w.client != c with
      | w :: ws =>
        after = { lease := some { client := w.client, park := w.park },
                  level := if supply = .hold then w.park else lease.park,
                  pulse := none, waiters := ws }
      | [] => after = { lease := none, level := idle, pulse := none, waiters := [] }
    else after = { before with waiters := before.waiters.filter fun w => w.client != c }
  | none => after = { before with waiters := before.waiters.filter fun w => w.client != c }

/-- The lines that a departing client holds and that another client is granted, in order of line: the other
client is the first waiter that is not the departing one (R50 step 3, R121 step 3). -/
def grantedAt (c d : ClientId) (s : State) : List LineId :=
  allLines.filter fun l =>
    (s.line l).heldBy c
      && ((s.line l).waiters.filter fun w => w.client != c).head?.any fun w => w.client == d

/-- GRANTED posted to one client for some lines, in their order (R52). -/
def postGranted (d : ClientId) (ls : List LineId) (s : State) : State :=
  ls.foldl (fun s l => postNotice d .granted (BitVec.ofNat 16 l.val) .granted 0 s) s

/-- What the teardown of a client does, and what it leaves (R121, R122). -/
structure TornDown (c : ClientId) (after : Session) (s t : State) : Prop where
  /-- The client's record, queues and slots are cleared; its marks stay (R121 steps 2, 6 and 7, R152). -/
  own : t.client c = { Client.reset with session := after, marks := (s.client c).marks }
  /-- The token is freed with its armed load, if the client held it (R21). -/
  token : s.authority = some c → t.authority = none ∧ t.armed = none
  /-- Another client's token and its armed load stay (R21). -/
  others : s.authority ≠ some c → t.authority = s.authority ∧ t.armed = s.armed
  /-- Every entry of the client is removed, and no other (R80). -/
  entries : ∀ k, t.slot k = (s.slot k).filter fun e => e.owner != c
  /-- The slots keep their use counts (R80). -/
  useCounts : t.useCounts = s.useCounts
  /-- Each line the client holds departs, and it leaves every wait list (R36, R50). -/
  lines : ∀ l, DepartedLine c s.supplyState (s.idleLevel l) (s.line l) (t.line l)
  /-- Another client is posted GRANTED for each line that it is granted, in order of line, and is otherwise
  as it was: its notices already queued stay (R50, R52, R122). -/
  clients : ∀ d, d ≠ c → t.client d = (postGranted d (grantedAt c d s) s).client d
  /-- A choice of the engine that names the client lapses (log 25). -/
  choice : t.choice = if s.choice = some c then none else s.choice
  /-- The counts and the clock, the inputs, the ports and the store go on (R122). -/
  rest : t = { s with clients := t.clients, lines := t.lines, slots := t.slots,
                      authority := t.authority, armed := t.armed,
                      choice := t.choice }

end Sys2Proof.Machine
end

