-- ==== Sys2Proof/Certificates/Slice0/Obligations.lean ====
section
/-!
DEFINITION. The statements for the provers. Each `Obligations.<Name>` is one statement; its docstring
says what it states and from which rules. A statement whose conclusion is an equation for the next state
is also the frame of its command: what the equation does not mention is unchanged.
-/

open Sys2Proof Sys2Proof.Machine

/-! ## The queue and the step -/

/-- A step with a command at the front of the queue is that command's execution on the state with the
queue's rest. -/
def Obligations.StepRunsTheFrontCommand : Prop :=
  ∀ (c : Instr) (rest : List Instr) (s : State), s.pending = c :: rest →
    step s = exec c { s with pending := rest }

/-- The model's choice of log 1: every command answers a next state, in every state, and does not touch
the queue; one whose event is not on offer changes nothing, here a pulse end at another time than the end
time. -/
def Obligations.EveryCommandAnswersNextAndKeepsTheQueue : Prop :=
  (∀ (c : Instr) (s : State), ∃ t, exec c s = .next t ∧ t.pending = s.pending)
  ∧ ∀ (l : LineId) (s : State), (∀ p, (s.line l).pulse = some p → p.endAt ≠ s.run) →
      exec (.pulseEnd l) s = .next s

/-! ## The tick, the inputs and SYNC -/

/-- A cycle of the tick source with the divider at 7 and nothing due (log 2) is a tick: it raises both counts
by one, the timebase count wrapping to 0, and returns the divider to 0; the clock supervisor counts the
cycle, the hold filter begins, goes on or is dropped by the supply at the tick, and no session, line, entry,
slot or option is touched (R1, R2, R3, R9, R12, R162, R163, R164). A cycle that issues no tick advances the
divider, if it is of the tick source, and is counted; a TICK is a stretch of cycles with one tick in it, the
model's choice of log 8; with no command queued one cycle of an oscillator that runs passes, the model's
choice of log 3. Outside the running device no tick is issued (R178, log 1). -/
def Obligations.TickRaisesBothCounts : Prop :=
  (∀ (o : Oscillator) (pins : PinSample) (s : State), s.phase = .running → dueEvents s = [] →
    s.divider = 7 → Drives o s →
    ∃ t, exec (.tick [o] pins) s = .next t
      ∧ t.timebase = s.timebase + 1 ∧ t.run = s.run + 1 ∧ t.divider = 0
      ∧ (s.timebase = 281474976710655#48 → t.timebase = 0#48)
      ∧ CycleCounted o s t
      ∧ t = { s with
          timebase := t.timebase, run := t.run, divider := t.divider,
          missingCycles := t.missingCycles, startWindow := t.startWindow,
          restartProgress := t.restartProgress, sampled := true, inputs := t.inputs,
          sync := t.sync, rawInputs := pins.inputs, rawSync := pins.sync,
          holdFilter := t.holdFilter }
      ∧ ∀ threshold level,
          (threshold, level) ∈ [(HoldThreshold.v280, 2800000), (.v295, 2950000), (.v310, 3100000)] →
          s.options.threshold = threshold →
          let across :=
            s.supplyState = .normal ∧ s.supplyUv < level
              ∨ s.supplyState = .hold ∧ level + 80000 < s.supplyUv
          (across → t.holdFilter = some (s.holdFilter.getD (s.run + 1)))
          ∧ (¬across → t.holdFilter = none))
  ∧ (∀ (o : Oscillator) (rest : List Oscillator) (pins : PinSample) (s : State),
      s.phase = .running → dueEvents s = [] → rest.length + 1 < 2 ^ 48 → s.clock ≠ none →
      (o = .main → s.clock = some .main ∨ s.clock = some .restarting) →
      ¬(Drives o s ∧ s.divider = 7) →
      ∃ u, CycleCounted o s u
        ∧ u = { s with
            divider := u.divider, missingCycles := u.missingCycles, startWindow := u.startWindow,
            restartProgress := u.restartProgress }
        ∧ (Drives o s → u.divider = s.divider + 1) ∧ (¬Drives o s → u.divider = s.divider)
        ∧ ∀ t, exec (.tick rest pins) u = .next t → t.run = s.run + 1 →
            exec (.tick (o :: rest) pins) s = .next t)
  ∧ (∀ (pins : PinSample) (s : State), exec (.tick [] pins) s = .next s)
  ∧ (∀ (cycles : List Oscillator) (pins : PinSample) (s : State), s.phase ≠ .running →
      exec (.tick cycles pins) s = .next s)
  ∧ (∀ s : State, s.pending = [] → s.phase = .running → dueEvents s = [] → s.clock ≠ none →
      ∃ o t, step s = .next t ∧ (o = .main → s.clock = some .main ∨ s.clock = some .restarting)
        ∧ CycleCounted o s t
        ∧ (Drives o s → s.divider = 7 →
            t.divider = 0 ∧ t.timebase = s.timebase + 1 ∧ t.run = s.run + 1)
        ∧ (¬(Drives o s ∧ s.divider = 7) →
            t = { s with
                divider := t.divider, missingCycles := t.missingCycles,
                startWindow := t.startWindow, restartProgress := t.restartProgress,
                freeCount := t.freeCount }
            ∧ (Drives o s → t.divider = s.divider + 1) ∧ (¬Drives o s → t.divider = s.divider)))
  ∧ ∀ s : State, s.pending = [] → s.phase = .heldInReset ∨ s.phase = .beforeOptionLoad →
      step s = .next s

/-- The sample of a tick: the first after clock start sets the filtered level without an edge (R98,
R27); each later one drops, begins or keeps the pending change, with the latch of R99. -/
def Obligations.TickSamplesTheInputs : Prop :=
  ∀ (o : Oscillator) (ins : Vector PinLevel 4) (sync : PinLevel) (s : State),
    s.phase = .running → dueEvents s = [] → s.divider = 7 → Drives o s →
    ∃ t, exec (.tick [o] { inputs := ins, sync := sync }) s = .next t ∧ t.sampled = true
      ∧ (s.sampled = false →
          (∀ i : InputId, t.input i = { s.input i with level := ins[i.val] })
          ∧ t.sync = { s.sync with level := sync })
      ∧ (s.sampled = true → ∀ i : InputId,
          (ins[i.val] = (s.input i).level → t.input i = { s.input i with pending := none })
          ∧ (ins[i.val] ≠ (s.input i).level → (s.input i).pending = none →
              t.input i = { s.input i with
                pending := some { run := s.run + 1, stamp := s.timebase + 1,
                                  timeState := s.timeState, quality := s.quality } })
          ∧ (ins[i.val] ≠ (s.input i).level → (s.input i).pending ≠ none →
              t.input i = s.input i))
      ∧ (s.sampled = true →
          (sync = s.sync.level → t.sync = { s.sync with pending := none })
          ∧ (sync ≠ s.sync.level → s.sync.pending = none →
              t.sync = { s.sync with pending := some (s.run + 1) })
          ∧ (sync ≠ s.sync.level → s.sync.pending ≠ none → t.sync = s.sync))

/-- An accepted edge flips the filtered level, raises the sequence number and delivers one record to
each client whose subscription includes the edge (R101, R102); and a record is placed by what the queue
holds (R108). Before the filter has run the command changes nothing (log 1). -/
def Obligations.AcceptedEdgeIsRecordedAndDelivered : Prop :=
  (∀ (i : InputId) (s : State) (latch : Latch),
    (s.input i).pending = some latch → s.filterTicks i ≤ distanceAhead s.run latch.run →
    ∃ t, exec (.acceptedEdge i) s = .next t
      ∧ t = { s with inputs := t.inputs, clients := t.clients }
      ∧ t.input i = { level := if (s.input i).level = .low then .high else .low,
                      pending := none, sequence := (s.input i).sequence + 1 }
      ∧ (∀ k, k ≠ i → t.input k = s.input k)
      ∧ ∀ c,
        let edge : EdgeKind := if (s.input i).level = .low then .rise else .fall
        let record : CaptureRecord :=
          .real i edge latch.stamp ((s.input i).sequence + 1)
            (decide (latch.timeState = .unset)) (decide (latch.quality = .degraded))
        let matching := (s.client c).sub i = some .both
          ∨ ((s.client c).sub i = some .rise ∧ edge = .rise)
          ∨ ((s.client c).sub i = some .fall ∧ edge = .fall)
        (matching → t.client c
          = { s.client c with captures := placeCapture record (s.client c).captures })
        ∧ (¬matching → t.client c = s.client c))
  ∧ (∀ (i : InputId) (s : State),
      (∀ latch, (s.input i).pending = some latch →
        distanceAhead s.run latch.run < s.filterTicks i) →
      exec (.acceptedEdge i) s = .next s)
  ∧ ∀ (r : CaptureRecord) (q : List CaptureRecord),
      (q.length < 15 → placeCapture r q = q ++ [r])
      ∧ (∀ older n, q = older ++ [.gap n] → 15 ≤ q.length →
          placeCapture r q = older ++ [.gap (min (n + 1) 65535)])
      ∧ (q.length = 15 → newestIsGap q = false → placeCapture r q = q ++ [.gap 1])

/-- A confirmed change of SYNC flips the filtered level. With no load of its kind armed it does nothing else;
with one, the load is removed, and the step to the load value plus the ticks since the change was first seen
is refused with SYNC REFUSED_RANGE to the holder, or made, with SYNC LOADED to the holder before SHIFTED to
every OPEN client; a forward step outside a supply hold then makes the late resolution of R70, which leaves no
entry behind the count or at it (R26, R27, R30, R59, R69). Before the filter has run the command changes
nothing (log 1). -/
def Obligations.SyncEdgePerformsTheArmedLoad : Prop :=
  (∀ (s : State) (latched : Count),
    s.sync.pending = some latched → s.options.syncFilter ≤ distanceAhead s.run latched →
    let edge : EdgeKind := if s.sync.level = .low then .rise else .fall
    let flipped : SyncFilter :=
      { level := if s.sync.level = .low then .high else .low, pending := none }
    ((∀ load, s.armed = some load → load.edge ≠ edge) →
      exec .syncEdge s = .next { s with sync := flipped })
    ∧ (∀ load c, s.armed = some load → load.edge = edge → s.authority = some c →
        let new := load.value + (s.run - latched)
        let step := stepOf s.timebase new
        let shifted : NoticeDetail :=
          .shifted step.1 (BitVec.ofNat 32 (min step.2 4294967295))
        let unarmed : State := { s with sync := flipped, armed := none }
        (stepAllowed new s = false →
          exec .syncEdge s = .next (postNotice c .sync 0 (.sync .refusedRange) 0 unarmed))
        ∧ (stepAllowed new s = true →
          (step.1 ≠ .forward ∨ s.supplyState = .hold →
            exec .syncEdge s
              = .next (postAll .shifted shifted
                  { postNotice c .sync 0 (.sync .loaded) 0 unarmed with
                    timebase := new, timeState := .set }))
          ∧ (step.1 = .forward → s.supplyState = .normal →
              exec .syncEdge s
                = .next (resolveLate (postAll .shifted shifted
                    { postNotice c .sync 0 (.sync .loaded) 0 unarmed with
                      timebase := new, timeState := .set })))
          ∧ ∃ t, exec .syncEdge s = .next t ∧ t.timebase = new ∧ t.timeState = .set
            ∧ t.armed = none ∧ t.authority = some c ∧ t.sync = flipped ∧ t.run = s.run
            ∧ (EntriesNamed s → step.1 = .forward → s.supplyState = .normal →
                ∀ k e, t.slot k = some e →
                  isBehind e.body.due t.timebase = false ∧ e.body.due ≠ t.timebase)
            ∧ (s.isOpen c = true → (s.client c).notices = [] →
                (t.client c).notices.take 2
                  = [{ kind := .sync, subject := 0, detail := .sync .loaded, tag := 0,
                       first := s.run, repeats := 1 },
                     { kind := .shifted, subject := 0, detail := shifted, tag := 0,
                       first := s.run, repeats := 1 }])
            ∧ ∀ d, d ≠ c → s.isOpen d = true → (s.client d).notices = [] →
                (t.client d).notices.head?
                  = some { kind := .shifted, subject := 0, detail := shifted, tag := 0,
                           first := s.run, repeats := 1 })))
  ∧ ∀ s : State,
      (∀ latched, s.sync.pending = some latched →
        distanceAhead s.run latched < s.options.syncFilter) →
      exec .syncEdge s = .next s

/-- How a step is classified (R5), and which steps pass the step limit and the horizon check: no entry lies
more than 2^40 ahead of the new count, and none that lay ahead is taken further than that by a backward step,
however far it goes (R7, R23, log 23). -/
def Obligations.StepClassificationAndChecks : Prop :=
  (∀ old new : Count,
    let d := (new.toNat + 2 ^ 48 - old.toNat) % 2 ^ 48
    (d = 0 → stepOf old new = (.none, 0))
    ∧ (1 ≤ d → d ≤ 2 ^ 47 - 1 → stepOf old new = (.forward, d))
    ∧ (2 ^ 47 ≤ d → stepOf old new = (.backward, 2 ^ 48 - d)))
  ∧ ∀ (new : Count) (s : State),
      stepAllowed new s = true ↔
        (new = s.timebase
          ∨ ((s.timeState = .unset ∨ (stepOf s.timebase new).2 ≤ 4294967295)
            ∧ ∀ k e, s.slot k = some e →
                let before := (e.body.due.toNat + 2 ^ 48 - s.timebase.toNat) % 2 ^ 48
                let after := (e.body.due.toNat + 2 ^ 48 - new.toNat) % 2 ^ 48
                (2 ^ 47 ≤ after ∨ after ≤ 1099511627776)
                ∧ ((stepOf s.timebase new).1 = .backward → before < 2 ^ 47 →
                    before + (stepOf s.timebase new).2 ≤ 1099511627776)))

/-! ## The calendar's own events -/

/-- What an occurrence does to the lines: with the guard met or absent, the action of R84 to R86 on its
own line; with the guard unmet, nothing; and with no occurrence due, or in a supply hold, nothing at all
(R46, R47, R81, R82, log 1). -/
def Obligations.OccurrenceActsOnTheLine : Prop :=
  ∀ (k : SlotId) (s : State) (e : Entry), s.slot k = some e →
    (s.supplyState = .normal → e.body.due = s.timebase →
      (∀ g, e.body.guard = some g → (s.input g.input).level = g.level) →
      ∃ t, exec (.occurrence k) s = .next t
        ∧ (∀ l, l ≠ e.body.line → t.line l = s.line l)
        ∧ (e.body.action = .setHigh →
            t.line e.body.line = { s.line e.body.line with level := .high, pulse := none })
        ∧ (e.body.action = .setLow →
            t.line e.body.line = { s.line e.body.line with level := .low, pulse := none })
        ∧ (e.body.action = .release →
            t.line e.body.line = { s.line e.body.line with level := .float, pulse := none })
        ∧ (e.body.action = .toggle →
            t.line e.body.line = { s.line e.body.line with
              level := if (s.line e.body.line).level = .high then .low
                else if (s.line e.body.line).level = .low then .high else .float
              pulse := none })
        ∧ (∀ v w, e.body.action = .pulse v w →
            t.line e.body.line = { s.line e.body.line with
              level := if v = .high then .high else .low
              pulse := some { endAt := s.run + w.setWidth 48,
                              returnLevel := (s.line e.body.line).level } }))
    ∧ (∀ g, s.supplyState = .normal → e.body.due = s.timebase → e.body.guard = some g →
        (s.input g.input).level ≠ g.level →
        ∃ t, exec (.occurrence k) s = .next t ∧ t.lines = s.lines)
    ∧ ((s.supplyState = .hold ∨ e.body.due ≠ s.timebase) → exec (.occurrence k) s = .next s)

/-- An occurrence brings its entry forward by one period, or removes it at its last occurrence, and
posts FIRED to the owner as notify decides, with the outcome of R88; the other slots, the use counts and
the counts are not touched (R81, R87, R88, R90). -/
def Obligations.OccurrenceAdvancesAndReports : Prop :=
  ∀ (k : SlotId) (s : State) (e : Entry), s.slot k = some e →
    s.supplyState = .normal → e.body.due = s.timebase →
    ∃ t, exec (.occurrence k) s = .next t
      ∧ t = { s with lines := t.lines, slots := t.slots, clients := t.clients }
      ∧ (∀ m, m ≠ k → t.slot m = s.slot m)
      ∧ (e.body.rep = none → t.slot k = none)
      ∧ (∀ r, e.body.rep = some r → r.count = .times 1 → t.slot k = none)
      ∧ (∀ r, e.body.rep = some r → r.count = .unlimited →
          t.slot k = some { e with body := { e.body with
            due := e.body.due + r.period.setWidth 48 } })
      ∧ (∀ r n, e.body.rep = some r → r.count = .times (n + 2) →
          t.slot k = some { e with body := { e.body with
            due := e.body.due + r.period.setWidth 48
            rep := some { r with count := .times (n + 1) } } })
      ∧ (let last := t.slot k = none
         let remaining : RepeatCount :=
           match (t.slot k).bind fun f => f.body.rep with
           | some r => r.count
           | none => .times 0
         let outcome : FireOutcome :=
           if guardMet e.body s = false then .guardSkipped
           else if e.body.action = .toggle ∧ (s.line e.body.line).level = .float then .ineffective
           else .done
         (e.body.notify = .none ∨ (e.body.notify = .last ∧ ¬last) → t.clients = s.clients)
         ∧ (e.body.notify = .each ∨ (e.body.notify = .last ∧ last) →
             t.clients
               = (postNotice e.owner .fired e.handle (.fired outcome remaining (decide last))
                   e.body.tag s).clients))

/-- How many occurrences a late due has passed: the smallest whole number k of at least 1 that brings
the due ahead of the count (R71); and what each late policy then does with the entry: WITHDRAW removes it,
SKIP and FIRE_LATE bring it forward by k occurrences or remove it, and FIRE_LATE with the guard met or absent
acts once on the line (R72, R73, R74); and the notice that notify asks for, with its outcome, or none (R75,
R90). -/
def Obligations.LateEntryResolvedByPolicy : Prop :=
  (∀ (b : Booking) (r : Repeat) (count : Count),
    b.rep = some r → 1 ≤ r.period.toNat → isBehind b.due count = true →
    let k := missedOccurrences b count
    1 ≤ k ∧ isAhead (b.due + BitVec.ofNat 48 (k * r.period.toNat)) count = true
      ∧ ∀ m, m < k → isBehind (b.due + BitVec.ofNat 48 (m * r.period.toNat)) count = true)
  ∧ ∀ (k : SlotId) (s : State) (e : Entry), s.slot k = some e →
      isBehind e.body.due s.timebase = true →
      let t := resolveEntry k s
      let missed := missedOccurrences e.body s.timebase
      t = { s with lines := t.lines, slots := t.slots, clients := t.clients }
      ∧ (∀ m, m ≠ k → t.slot m = s.slot m)
      ∧ (e.body.late = .withdraw →
          t.slot k = none ∧ t.lines = s.lines
          ∧ (e.body.notify = .none → t.clients = s.clients)
          ∧ (e.body.notify ≠ .none → t.clients
              = (postNotice e.owner .withdrawn e.handle (.withdrawn .late) e.body.tag s).clients))
      ∧ (e.body.late = .skip ∨ e.body.late = .fireLate ∧ guardMet e.body s = false →
          t.lines = s.lines)
      ∧ (e.body.late = .fireLate → guardMet e.body s = true →
          t.line e.body.line = (s.line e.body.line).apply e.body.action s.run
          ∧ ∀ l, l ≠ e.body.line → t.line l = s.line l)
      ∧ (e.body.late ≠ .withdraw →
          (e.body.rep = none → t.slot k = none)
          ∧ (∀ r, e.body.rep = some r → r.count = .unlimited →
              t.slot k = some { e with body := { e.body with
                due := e.body.due + BitVec.ofNat 48 (missed * r.period.toNat) } })
          ∧ (∀ r n, e.body.rep = some r → r.count = .times n →
              (n ≤ missed → t.slot k = none)
              ∧ (missed < n →
                  t.slot k = some { e with body := { e.body with
                    due := e.body.due + BitVec.ofNat 48 (missed * r.period.toNat)
                    rep := some { r with count := .times (n - missed) } } }))
          ∧ let last := t.slot k = none
            let remaining : RepeatCount :=
              match (t.slot k).bind fun f => f.body.rep with
              | some r => r.count
              | none => .times 0
            let outcome : FireOutcome :=
              if e.body.late = .skip then .lateSkipped
              else if guardMet e.body s = true then .lateFired
              else .guardSkipped
            (e.body.notify = .none ∨ (e.body.notify = .last ∧ ¬last) → t.clients = s.clients)
            ∧ (e.body.notify = .each ∨ (e.body.notify = .last ∧ last) →
                t.clients
                  = (postNotice e.owner .fired e.handle (.fired outcome remaining (decide last))
                      e.body.tag s).clients))

/-- The late resolution of one event takes the entries that are behind the count one after another, the most
behind first and equal dues in handle order, each by its late policy (LateEntryResolvedByPolicy says how), and
then the occurrences at distance 0, each as OCCURRENCE takes it; their order is left open (R59, R70, R91,
log 22). Entries ahead of the count stay as they were, no entry comes in, and a line or a client with no late
or due entry keeps its record. Outside a supply hold no entry is then behind the count or at it (R59, R70). -/
def Obligations.LateResolutionLeavesNothingBehind : Prop :=
  (∀ (k : SlotId) (s : State), exec (.occurrence k) s = .next (takeOccurrence k s))
  ∧ ∀ s : State,
    let t := resolveLate s
    let touched (e : Entry) : Prop := isBehind e.body.due s.timebase = true ∨ e.body.due = s.timebase
    (∃ (late due : List SlotId) (free : Nat),
      let resolved := late.foldl (fun u k => resolveEntry k u) s
      late.Nodup
      ∧ (∀ k, k ∈ late ↔ ∃ e, s.slot k = some e ∧ isBehind e.body.due s.timebase = true)
      ∧ late.Pairwise (fun k m => ∀ e f, s.slot k = some e → s.slot m = some f →
          distanceAhead s.timebase f.body.due < distanceAhead s.timebase e.body.due
          ∨ e.body.due = f.body.due ∧ e.handle.toNat ≤ f.handle.toNat)
      ∧ due.Nodup
      ∧ (∀ k, k ∈ due ↔
          s.supplyState = .normal ∧ ∃ e, resolved.slot k = some e ∧ e.body.due = s.timebase)
      ∧ t = due.foldl (fun u k => takeOccurrence k u) { resolved with freeCount := free })
    ∧ t = { s with lines := t.lines, slots := t.slots, clients := t.clients,
                   freeCount := t.freeCount }
    ∧ (∀ k e, s.slot k = some e → ¬touched e → t.slot k = some e)
    ∧ (∀ k, s.slot k = none → t.slot k = none)
    ∧ (∀ l, (∀ k e, s.slot k = some e → e.body.line = l → ¬touched e) → t.line l = s.line l)
    ∧ (∀ c, (∀ k e, s.slot k = some e → e.owner = c → ¬touched e) → t.client c = s.client c)
    ∧ (EntriesNamed s → s.supplyState = .normal → ∀ k e, t.slot k = some e →
        isBehind e.body.due s.timebase = false ∧ e.body.due ≠ s.timebase)

/-- Pulse end: the line goes to the return level and the pulse becomes absent; nothing else changes. A
line whose pulse has been cut has no pulse end, and in a supply hold no line has one (R49). -/
def Obligations.PulseEndReturnsTheLine : Prop :=
  ∀ (l : LineId) (s : State),
    (∀ p, (s.line l).pulse = some p → p.endAt = s.run →
      exec (.pulseEnd l) s
        = .next (s.setLine l { s.line l with level := p.returnLevel, pulse := none }))
    ∧ ((s.line l).pulse = none → exec (.pulseEnd l) s = .next s)
    ∧ (LinesRest s → s.supplyState = .hold → exec (.pulseEnd l) s = .next s)

/-! ## Sessions -/

/-- The teardown of a client, by the expiry of its keepalive and by CLOSE: what it clears, what it hands on,
with GRANTED to the new holders, and what it leaves; the session becomes LAPSED or CLOSED (R50, R52, R116,
R120, R121, R122); no expiry at another time, or for a client that is not OPEN (log 1). That a choice of the
engine which names the client lapses (TornDown.choice) is the model's choice of log 25. -/
def Obligations.ExpiryAndCloseTearTheClientDown : Prop :=
  (∀ (c : ClientId) (s : State) (d : SessionData), (s.client c).session = .opened d →
    (d.deadline = s.run →
      ∃ t, exec (.keepaliveExpiry c) s = .next t ∧ TornDown c .lapsed s t)
    ∧ (d.deadline ≠ s.run → exec (.keepaliveExpiry c) s = .next s))
  ∧ (∀ (c : ClientId) (s : State), s.isOpen c = false →
      exec (.keepaliveExpiry c) s = .next s)
  ∧ ∀ (s : State) (j : EngineJob), Executing s j 0x11 [] → s.isOpen j.client = true →
      ∃ t, TornDown j.client .closed s t
        ∧ exec .closeSession s
          = .next (t.replied j .ok
              [byteOf (allLines.countP fun l => (s.line l).heldBy j.client),
               byteOf (s.entryCount j.client), byteOf (s.client j.client).notices.length,
               byteOf (s.client j.client).captures.length])

/-- OPEN: DISABLED for a client that is not enabled, INVALID outside the ranges, and otherwise the
session is OPEN with the period, the mask and the deadline given, answered OK or, from an OPEN session,
ALREADY (R114). -/
def Obligations.OpenStartsOrUpdatesASession : Prop :=
  (∀ (s : State) (j : EngineJob) (ps : List Byte), Executing s j 0x10 ps →
    s.isEnabled j.client = false → exec .openSession s = .next (s.replied j .disabled []))
  ∧ (∀ (s : State) (j : EngineJob) (p : Nat) (mask : Byte),
      Executing s j 0x10 (beBytes 2 p ++ [mask]) → s.isEnabled j.client = true → p < 65536 →
      (p < 10 ∨ 60000 < p ∨ 3 < mask.toNat) →
      exec .openSession s = .next (s.replied j .invalid []))
  ∧ ∀ (s : State) (j : EngineJob) (p : Nat) (mask : AttentionMask),
      Executing s j 0x10 (beBytes 2 p ++ [maskCode mask]) → s.isEnabled j.client = true →
      10 ≤ p → p ≤ 60000 →
      exec .openSession s
        = .next ((s.setClient j.client
            { s.client j.client with
              session := .opened { period := p
                                   deadline := s.run + BitVec.ofNat 48 (p * 1000)
                                   mask := mask } }).replied j
            (if s.isOpen j.client then .already else .ok)
            ([sessionCode (s.client j.client).session] ++ beBytes 4 (p * 1000)))

/-- HEARTBEAT, INFO, READ_TIME, LINE_STATUS, QUERY_ENTRY and READ_OPTIONS change nothing but the reply, which
they give as R118, R146, R15, R45, R66 and R176 state; SET_ATTENTION replaces the mask and reports the former
one (R119). -/
def Obligations.ReportingRequestsChangeOnlyTheReply : Prop :=
  (∀ (s : State) (j : EngineJob) (d : SessionData), Executing s j 0x12 [] →
    (s.client j.client).session = .opened d →
    exec .heartbeat s
      = .next (s.replied j .ok
          ([byteOf (s.client j.client).notices.length,
            byteOf (s.client j.client).captures.length]
            ++ beBytes 4 ((d.deadline.toNat + 2 ^ 48 - s.run.toNat) % 2 ^ 48))))
  ∧ (∀ (s : State) (j : EngineJob), Executing s j 0x14 [] →
      exec .info s
        = .next (s.replied j .ok
            [0x2D, 0x84, 0x10, 0x01, byteOf j.client.val, sessionCode (s.client j.client).session,
             resetCauseCode s.lastReset, optionStatusCode s.optionStatus, clockCode s.clock,
             timeStateCode s.timeState, supplyStateCode s.supplyState,
             byteOf (64 - s.totalEntries), byteOf (s.entryCount j.client),
             byteOf (s.share j.client)]))
  ∧ (∀ (s : State) (j : EngineJob), Executing s j 0x50 [] → s.isOpen j.client = true →
      exec .readTime s
        = .next (s.replied j .ok
            (beBytes 6 s.timebase.toNat ++ beBytes 6 s.run.toNat
              ++ [timeStateCode s.timeState, clockCode s.clock, supplyStateCode s.supplyState])))
  ∧ (∀ (s : State) (j : EngineJob) (d : SessionData) (mask : AttentionMask),
      Executing s j 0x13 [maskCode mask] → (s.client j.client).session = .opened d →
      exec .setAttention s
        = .next ((s.setClient j.client
            { s.client j.client with session := .opened { d with mask := mask } }).replied j
            .ok [maskCode d.mask]))
  ∧ (∀ (s : State) (j : EngineJob) (l : LineId), Executing s j 0x24 [byteOf l.val] →
    s.isOpen j.client = true →
    ∃ w0 w1 w2 : Byte,
      exec .lineStatus s
        = .next (s.replied j .ok
            [flagCode (s.line l).lease.isSome,
             (match (s.line l).lease with | some q => byteOf q.client.val | none => 0xFF),
             levelCode (s.line l).level,
             (match (s.line l).lease with | some q => levelCode q.park | none => 0xFF),
             driveModeCode (s.driveMode l), flagCode (s.line l).pulse.isSome,
             byteOf (s.line l).waiters.length, w0, w1, w2])
      ∧ (∀ w, (s.line l).waiters[0]? = some w → w0 = byteOf w.client.val)
      ∧ (∀ w, (s.line l).waiters[1]? = some w → w1 = byteOf w.client.val)
      ∧ (∀ w, (s.line l).waiters[2]? = some w → w2 = byteOf w.client.val)
      ∧ ((s.line l).waiters.length ≤ 0 → w0 = 0xFF)
      ∧ ((s.line l).waiters.length ≤ 1 → w1 = 0xFF)
      ∧ ((s.line l).waiters.length ≤ 2 → w2 = 0xFF))
  ∧ (∀ (s : State) (j : EngineJob) (h : Handle), Executing s j 0x34 (beBytes 2 h.toNat) →
      s.isOpen j.client = true →
      (∀ k e, s.slot k = some e → e.handle = h → e.owner = j.client → k = slotOf h →
        exec .queryEntry s
          = .next (s.replied j .ok (bookingBytes e.body
              ++ beBytes 6 ((e.body.due.toNat + 2 ^ 48 - s.timebase.toNat) % 2 ^ 48))))
      ∧ ((∀ k e, s.slot k = some e → e.handle = h → e.owner ≠ j.client) →
          exec .queryEntry s = .next (s.replied j .notFound [])))
  ∧ ∀ (s : State) (j : EngineJob), Executing s j 0x60 [] → s.isOpen j.client = true →
      (s.store = none →
        exec .readOptions s
          = .next (s.replied j .ok
              (imageBytes s.options ++ [optionStatusCode s.optionStatus, 0xFF, 0x00, 0x00])))
      ∧ ∀ job, s.store = some job →
          exec .readOptions s
            = .next (s.replied j .ok
                (imageBytes s.options ++ [optionStatusCode s.optionStatus, copyCode job.target]
                  ++ beBytes 2 job.generation.toNat))

/-! ## The request engine -/

/-- The free engine takes the frame of the client it has chosen or, where it found every slot empty when it
became free, the first from the client after the pointer on: the request slot empties, the pointer and the
keepalive are set, and the response slot becomes PENDING; a duplicate of a DONE response ends at its take,
and the engine chooses again (R115, R134, R135, R145). That an engine which found every slot empty chooses at the
take, among the slots full then, and that it chooses again after a duplicate, is deduced (log 25). With nothing to
take nothing happens (log 1). -/
def Obligations.RequestTakeRoundRobin : Prop :=
  (∀ (s : State) (c : ClientId) (f : Frame), s.engine = none → s.phase = .running →
    s.choice = some c ∨ s.choice = none ∧ FirstWaiting s (some c) →
    (s.client c).request = some f →
    let session : Session :=
      match (s.client c).session with
      | .opened d => .opened { d with deadline := s.run + BitVec.ofNat 48 (d.period * 1000) }
      | .closed => .closed
      | .lapsed => .lapsed
    ((∀ r, (s.client c).response ≠ .done f.sequence f.kind r) →
      exec .requestTake s
        = .next { s.setClient c { s.client c with
                    session := session, request := none,
                    response := .pending f.sequence f.kind } with
                  pointer := c, choice := none
                  engine := some { client := c, frame := f, takenAt := s.run, outcome := none } })
    ∧ (∀ r, (s.client c).response = .done f.sequence f.kind r →
        ∃ next,
          exec .requestTake s
            = .next { s.setClient c { s.client c with session := session, request := none } with
                      pointer := c, choice := next }
          ∧ FirstWaiting
              { s.setClient c { s.client c with request := none } with pointer := c } next))
  ∧ ∀ s : State, (s.engine ≠ none ∨ ∀ c, (s.client c).request = none) →
      exec .requestTake s = .next s

/-- The completion of an executed request writes the response with the six client flags of that moment
and frees the engine, which
chooses the next slot at this moment (R134, R135, R141, R143); with none executed nothing happens (log 1). -/
def Obligations.RequestCompletionWritesTheResponse : Prop :=
  (∀ (s : State) (j : EngineJob) (status : Status) (result : List Byte),
    s.engine = some j → j.outcome = some (status, result) →
    ∃ (flags : Byte) (next : Option ClientId),
      exec .requestCompletion s
        = .next { s.setClient j.client
                    { s.client j.client with
                      response := .done j.frame.sequence j.frame.kind
                        { status := status, result := result, flags := flags } } with
                  engine := none, choice := next }
      ∧ FirstWaiting s next
      ∧ flags.getLsbD 0 = (s.client j.client).lost
      ∧ flags.getLsbD 1 = (s.client j.client).captures.any CaptureRecord.isGap
      ∧ flags.getLsbD 2 = decide (s.authority = some j.client)
      ∧ flags.getLsbD 3 = decide (s.timeState = .unset)
      ∧ flags.getLsbD 4 = decide (s.quality = .degraded)
      ∧ flags.getLsbD 5 = decide (s.supplyState = .hold)
      ∧ flags.getLsbD 6 = false ∧ flags.getLsbD 7 = false)
  ∧ ∀ s : State, (∀ j, s.engine = some j → j.outcome = none) →
      exec .requestCompletion s = .next s

/-- A frame whose kind names no request is answered UNKNOWN_KIND with result length 0, and changes nothing
(R138). The common checks: a request of a known kind other than OPEN and INFO from a client that is not OPEN
is answered NOT_OPEN (R137, R139), and parameters where the kind carries none are answered INVALID (R137); so
are parameters that no valid request of the kind has, OPEN's after the check for DISABLED (R25, R56, R61,
R114, R137, R146, R173); all change nothing. That the members of a BATCH are cut apart by the parts byte of each
is deduced (log 24). LeaveQueueRemovesTheWaiter and DriveSetsTheLevel say what is INVALID for LEAVE_QUEUE and
DRIVE, and OpenStartsOrUpdatesASession does so for OPEN's ranges. A request's row does nothing when the engine
holds no request of its kind (log 1). -/
def Obligations.CommonChecksRefuse : Prop :=
  (∀ (s : State) (j : EngineJob) (kind : Byte) (ps : List Byte), Executing s j kind ps →
      kind ∉ ([0x10, 0x11, 0x12, 0x13, 0x14, 0x20, 0x21, 0x22, 0x23, 0x24, 0x30, 0x31, 0x32, 0x33,
               0x34, 0x35, 0x40, 0x41, 0x42, 0x48, 0x50, 0x51, 0x52, 0x53, 0x54, 0x55, 0x56, 0x57,
               0x60, 0x61] : List Byte) →
      exec .unknownKind s = .next (s.replied j .unknownKind []))
  ∧ (∀ row ∈ ([(.closeSession, 0x11), (.heartbeat, 0x12), (.setAttention, 0x13), (.acquire, 0x20),
        (.release, 0x21), (.leaveQueue, 0x22), (.drive, 0x23), (.lineStatus, 0x24),
        (.schedule, 0x30), (.batch, 0x31), (.cancel, 0x32), (.cancelLine, 0x33),
        (.queryEntry, 0x34), (.listEntries, 0x35), (.subscribe, 0x40), (.unsubscribe, 0x41),
        (.takeCaptures, 0x42), (.takeNotices, 0x48), (.readTime, 0x50), (.claimAuthority, 0x51),
        (.yieldAuthority, 0x52), (.setTime, 0x53), (.shift, 0x54), (.armSync, 0x55),
        (.disarmSync, 0x56), (.restoreClock, 0x57), (.readOptions, 0x60),
        (.storeOptions, 0x61)] : List (Instr × Byte)),
    ∀ (s : State) (j : EngineJob) (ps : List Byte),
      (Executing s j row.2 ps → s.isOpen j.client = false →
        exec row.1 s
          = .next (s.replied j .notOpen (if row.1 = .batch then [0x00] else [])))
      ∧ (s.engine = some j → j.frame.kind ≠ row.2 → exec row.1 s = .next s)
      ∧ (s.engine = none → exec row.1 s = .next s))
  ∧ (∀ row ∈ ([(.closeSession, 0x11), (.heartbeat, 0x12), (.takeCaptures, 0x42),
        (.takeNotices, 0x48), (.readTime, 0x50), (.claimAuthority, 0x51), (.yieldAuthority, 0x52),
        (.disarmSync, 0x56), (.restoreClock, 0x57), (.readOptions, 0x60)] : List (Instr × Byte)),
      ∀ (s : State) (j : EngineJob) (ps : List Byte), Executing s j row.2 ps →
        s.isOpen j.client = true → ps ≠ [] →
        exec row.1 s = .next (s.replied j .invalid []))
  ∧ (∀ (s : State) (j : EngineJob) (ps : List Byte), Executing s j 0x14 ps → ps ≠ [] →
      exec .info s = .next (s.replied j .invalid []))
  ∧ (∀ (s : State) (j : EngineJob) (ps : List Byte), Executing s j 0x10 ps →
      s.isEnabled j.client = true → ps.length ≠ 3 →
      exec .openSession s = .next (s.replied j .invalid []))
  ∧ (∀ row ∈ ([(.release, 0x21), (.lineStatus, 0x24), (.cancelLine, 0x33)] : List (Instr × Byte)),
      ∀ (s : State) (j : EngineJob) (ps : List Byte), Executing s j row.2 ps →
        s.isOpen j.client = true → (∀ l : LineId, ps ≠ [byteOf l.val]) →
        exec row.1 s = .next (s.replied j .invalid []))
  ∧ (∀ row ∈ ([(.cancel, 0x32), (.queryEntry, 0x34), (.listEntries, 0x35)] : List (Instr × Byte)),
      ∀ (s : State) (j : EngineJob) (ps : List Byte), Executing s j row.2 ps →
        s.isOpen j.client = true → ps.length ≠ 2 →
        exec row.1 s = .next (s.replied j .invalid []))
  ∧ ∀ (s : State) (j : EngineJob) (ps : List Byte), s.isOpen j.client = true →
    (Executing s j 0x13 ps → (∀ mask : AttentionMask, ps ≠ [maskCode mask]) →
      exec .setAttention s = .next (s.replied j .invalid []))
    ∧ (Executing s j 0x20 ps →
        (∀ (l : LineId) (park : Level) (wait : Bool),
          ps ≠ [byteOf l.val, levelCode park, flagCode wait]) →
        exec .acquire s = .next (s.replied j .invalid []))
    ∧ (Executing s j 0x30 ps → (∀ b, BookingInRange b → ps ≠ bookingBytes b) →
        exec .schedule s = .next (s.replied j .invalid []))
    ∧ (Executing s j 0x31 ps →
        (∀ ms : List (List Byte), 1 ≤ ms.length → ms.length ≤ 3 →
          (∀ d ∈ ms, ∃ a b parts tail, d = a :: b :: parts :: tail
            ∧ d.length = descriptorLength parts) →
          ps ≠ byteOf ms.length :: ms.flatten) →
        exec .batch s = .next (s.replied j .invalid [0x00]))
    ∧ (Executing s j 0x40 ps →
        (∀ (i : InputId) (choice : EdgeChoice), ps ≠ [byteOf i.val, edgeChoiceCode choice]) →
        exec .subscribe s = .next (s.replied j .invalid []))
    ∧ (Executing s j 0x41 ps → (∀ i : InputId, ps ≠ [byteOf i.val]) →
        exec .unsubscribe s = .next (s.replied j .invalid []))
    ∧ (Executing s j 0x53 ps → ps.length ≠ 6 →
        exec .setTime s = .next (s.replied j .invalid []))
    ∧ (Executing s j 0x54 ps →
        (∀ m : BitVec 32, m ≠ 0 →
          ps ≠ [directionCode .forward] ++ beBytes 4 m.toNat
          ∧ ps ≠ [directionCode .backward] ++ beBytes 4 m.toNat) →
        exec .shift s = .next (s.replied j .invalid []))
    ∧ (Executing s j 0x55 ps →
        (∀ (value : Count) (edge : EdgeKind),
          ps ≠ beBytes 6 value.toNat ++ [edgeKindCode edge]) →
        exec .armSync s = .next (s.replied j .invalid []))
    ∧ (Executing s j 0x61 ps →
        (∀ o, FieldsInRange o → addressesValid o.address2 o.address3 = true → ps ≠ imageBytes o) →
        exec .storeOptions s = .next (s.replied j .invalid []))

/-! ## Lines -/

/-- The pin of a line: driven low at LOW, driven high at HIGH in PUSH_PULL, and otherwise not driven, as
the record stands; and not driven in any state that keeps the levels at rest, from a reset until step 3
of the start sequence. LINE_STATUS reports the level as it was set, in both drive modes (R34). -/
def Obligations.PinFollowsLevelAndDriveMode : Prop :=
  ∀ (s : State) (l : LineId),
    ((s.line l).level = .low → s.pin l = .drivenLow)
    ∧ ((s.line l).level = .high → s.driveMode l = .pushPull → s.pin l = .drivenHigh)
    ∧ ((s.line l).level = .high → s.driveMode l = .openDrain → s.pin l = .notDriven)
    ∧ ((s.line l).level = .float → s.pin l = .notDriven)
    ∧ (LinesRest s → s.phase = .heldInReset ∨ s.phase = .beforeOptionLoad → s.pin l = .notDriven)
    ∧ ∀ j : EngineJob, Executing s j 0x24 [byteOf l.val] → s.isOpen j.client = true →
        ∃ result, exec .lineStatus s = .next (s.replied j .ok result)
          ∧ result[2]? = some (levelCode (s.line l).level)

/-- ACQUIRE by its table: a FREE line is granted, at its level or in a hold at the park level named; a
HELD line answers ALREADY to its holder and to its waiters, HELD without wait, and QUEUED with it (R37,
R39). -/
def Obligations.AcquireFollowsItsTable : Prop :=
  ∀ (s : State) (j : EngineJob) (l : LineId) (park : Level) (wait : Bool), Owned s →
    Executing s j 0x20 [byteOf l.val, levelCode park, flagCode wait] →
    s.isOpen j.client = true →
    ((s.line l).lease = none →
      exec .acquire s
        = .next ((s.setLine l
            { s.line l with
              lease := some { client := j.client, park := park }
              level := if s.supplyState = .hold then park else (s.line l).level }).replied j .ok
            [byteOf j.client.val, 0x00]))
    ∧ ∀ lease, (s.line l).lease = some lease →
        (lease.client = j.client →
          exec .acquire s = .next (s.replied j .already [byteOf j.client.val, 0x00]))
        ∧ (∀ ahead w behind, (s.line l).waiters = ahead ++ w :: behind → w.client = j.client →
            exec .acquire s
              = .next (s.replied j .already [byteOf lease.client.val, byteOf (ahead.length + 1)]))
        ∧ (lease.client ≠ j.client → (s.line l).awaitedBy j.client = false →
            (wait = false →
              exec .acquire s = .next (s.replied j .held [byteOf lease.client.val, 0x00]))
            ∧ (wait = true → (s.line l).waiters.length < 3 →
              exec .acquire s
                = .next ((s.setLine l
                    { s.line l with
                      waiters := (s.line l).waiters ++ [{ client := j.client, park := park }] }
                    ).replied j .queued
                    [byteOf lease.client.val, byteOf ((s.line l).waiters.length + 1)])))

/-- RELEASE by the holder withdraws its entries on the line, cuts the pulse, and hands the line to the
head waiter, who is posted GRANTED, or frees it at its idle level; another client is answered NOT_HOLDER
(R39, R40, R41, R52). -/
def Obligations.ReleasePassesTheLineOn : Prop :=
  ∀ (s : State) (j : EngineJob) (l : LineId), Executing s j 0x21 [byteOf l.val] →
    s.isOpen j.client = true →
    ((s.line l).heldBy j.client = false →
      exec .release s = .next (s.replied j .notHolder []))
    ∧ ((s.line l).heldBy j.client = true →
        let mine : Entry → Bool := fun e => e.owner == j.client && e.body.line == l
        ∃ (t : State) (holder : Byte), exec .release s
            = .next (t.replied j .ok
                [holder, byteOf (s.slots.toList.countP fun o : Option Entry => o.any mine)])
          ∧ t = { s with lines := t.lines, slots := t.slots, clients := t.clients }
          ∧ (∀ k, t.slot k = (s.slot k).filter fun e => !mine e)
          ∧ (∀ m, m ≠ l → t.line m = s.line m)
          ∧ ((s.line l).waiters = [] → holder = 0xFF ∧ t.clients = s.clients
              ∧ t.line l = { lease := none, level := s.idleLevel l, pulse := none, waiters := [] })
          ∧ ∀ (w : Waiter) (ws : List Waiter), (s.line l).waiters = w :: ws →
              holder = byteOf w.client.val
              ∧ t.line l = { lease := some { client := w.client, park := w.park }
                             level := if s.supplyState = .hold then w.park else (s.line l).level
                             pulse := none, waiters := ws }
              ∧ t.clients
                  = (postNotice w.client .granted (BitVec.ofNat 16 l.val) .granted 0 s).clients)

/-- LEAVE_QUEUE: NOT_OPEN and INVALID by the checks of R37; it removes the requester's waiter record, the
others keeping their order, and changes nothing else; a client that is not in the list, the holder
included, is answered NOT_FOUND (R42). -/
def Obligations.LeaveQueueRemovesTheWaiter : Prop :=
  (∀ (s : State) (j : EngineJob) (ps : List Byte), Executing s j 0x22 ps →
    (s.isOpen j.client = false → exec .leaveQueue s = .next (s.replied j .notOpen []))
    ∧ (s.isOpen j.client = true → (∀ l : LineId, ps ≠ [byteOf l.val]) →
        exec .leaveQueue s = .next (s.replied j .invalid [])))
  ∧ ∀ (s : State) (j : EngineJob) (l : LineId), Executing s j 0x22 [byteOf l.val] →
      s.isOpen j.client = true →
      ((∀ w ∈ (s.line l).waiters, w.client ≠ j.client) →
        exec .leaveQueue s = .next (s.replied j .notFound []))
      ∧ (Owned s → (s.line l).heldBy j.client = true →
        exec .leaveQueue s = .next (s.replied j .notFound []))
      ∧ ∀ ahead w behind, (s.line l).waiters = ahead ++ w :: behind → w.client = j.client →
          (∀ v ∈ ahead ++ behind, v.client ≠ j.client) →
          exec .leaveQueue s
            = .next ((s.setLine l { s.line l with waiters := ahead ++ behind }).replied j .ok [])

/-- DRIVE: NOT_OPEN, INVALID, NOT_HOLDER and HOLD in this order, and otherwise the level given, with any
pulse cut and the former level reported (R44). -/
def Obligations.DriveSetsTheLevel : Prop :=
  (∀ (s : State) (j : EngineJob) (ps : List Byte), Executing s j 0x23 ps →
    s.isOpen j.client = false → exec .drive s = .next (s.replied j .notOpen []))
  ∧ (∀ (s : State) (j : EngineJob) (ps : List Byte), Executing s j 0x23 ps →
      s.isOpen j.client = true →
      (∀ (l : LineId) (level : Level), ps ≠ [byteOf l.val, levelCode level]) →
      exec .drive s = .next (s.replied j .invalid []))
  ∧ ∀ (s : State) (j : EngineJob) (l : LineId) (level : Level),
      Executing s j 0x23 [byteOf l.val, levelCode level] → s.isOpen j.client = true →
      ((s.line l).heldBy j.client = false →
        exec .drive s = .next (s.replied j .notHolder []))
      ∧ ((s.line l).heldBy j.client = true → s.supplyState = .hold →
          exec .drive s = .next (s.replied j .hold []))
      ∧ ((s.line l).heldBy j.client = true → s.supplyState = .normal →
          exec .drive s
            = .next ((s.setLine l { s.line l with level := level, pulse := none }).replied j .ok
                [levelCode (s.line l).level, flagCode (s.line l).pulse.isSome]))

/-! ## Booking -/

/-- SCHEDULE: the checks of R60 in order, each with its status and no change; and when all pass, the
entry in the lowest empty slot, with the advanced use count and the handle formed from it (R57, R60,
R63). -/
def Obligations.ScheduleBooksOrRefuses : Prop :=
  (∀ (s : State) (j : EngineJob) (ps : List Byte), Executing s j 0x30 ps →
    s.isOpen j.client = true → parseBooking ps = none →
    exec .schedule s = .next (s.replied j .invalid []))
  ∧ ∀ (s : State) (j : EngineJob) (ps : List Byte) (b : Booking), Executing s j 0x30 ps →
      s.isOpen j.client = true → parseBooking ps = some b →
      let d := (b.due.toNat + 2 ^ 48 - s.timebase.toNat) % 2 ^ 48
      let conflict := ∃ k e, s.slot k = some e ∧ e.owner = j.client ∧ e.body.line = b.line
        ∧ e.body.due = b.due
      let holds := (s.line b.line).heldBy j.client = true
      let degraded := b.strict = true ∧ s.quality = .degraded
      let soon := d < 50 ∨ 2 ^ 47 ≤ d
      let far := 1099511627776 < d
      let full := s.share j.client ≤ s.entryCount j.client ∨ 64 ≤ s.totalEntries
      (¬holds → exec .schedule s = .next (s.replied j .notHolder []))
      ∧ (holds → degraded → exec .schedule s = .next (s.replied j .degraded []))
      ∧ (holds → ¬degraded → soon → exec .schedule s = .next (s.replied j .tooSoon []))
      ∧ (holds → ¬degraded → ¬soon → far → exec .schedule s = .next (s.replied j .tooFar []))
      ∧ (holds → ¬degraded → ¬soon → ¬far → conflict →
          exec .schedule s = .next (s.replied j .conflict []))
      ∧ (holds → ¬degraded → ¬soon → ¬far → ¬conflict → full →
          exec .schedule s = .next (s.replied j .noSpace []))
      ∧ (holds → ¬degraded → ¬soon → ¬far → ¬conflict → ¬full →
          ∃ k : SlotId, s.slot k = none ∧ (∀ m : SlotId, m < k → s.slot m ≠ none)
            ∧ let u : BitVec 10 := if s.useCount k = 1023 then 1 else s.useCount k + 1
              let h : Handle := BitVec.ofNat 16 (k.val + 64 * u.toNat)
              exec .schedule s
                = .next ({ s.setSlot k (some { handle := h, owner := j.client, body := b }) with
                    useCounts := s.useCounts.set k.val u }.replied j .ok
                    (beBytes 2 h.toNat ++ [byteOf (s.entryCount j.client + 1)])))

/-- BATCH: a refused one leaves everything but its reply, which carries the failing member 0..3 (R61,
R140); one whose members all pass in turn books them all, in member order; and the first member that does
not parse, or does not pass with the earlier ones booked, is the one the refusal names (R61, R62, R63). A
member's length is read from its parts byte (log 24), and the failing-member byte on OK is the model's choice of
log 26. -/
def Obligations.BatchBooksAllOrNone : Prop :=
  (∀ (s : State) (j : EngineJob) (ps : List Byte), Executing s j 0x31 ps →
    (∃ status member, status ≠ .ok ∧ member ≤ 3
        ∧ exec .batch s = .next (s.replied j status [byteOf member]))
    ∨ ∃ (t : State) (handles : List Byte), exec .batch s
          = .next (t.replied j .ok
              ([0x00] ++ handles ++ [byteOf (t.entryCount j.client)]))
        ∧ t = { s with slots := t.slots, useCounts := t.useCounts }
        ∧ (∀ k e, s.slot k = some e → t.slot k = some e))
  ∧ ∀ (s t : State) (j : EngineJob) (ms : List (List Byte)) (bs : List Booking)
      (handles : List Handle),
      s.isOpen j.client = true → BookedInTurn j.client bs s t handles →
      (Executing s j 0x31 (byteOf ms.length :: ms.flatten) → 1 ≤ ms.length → ms.length ≤ 3 →
        ms.map parseBooking = bs.map some →
        exec .batch s
          = .next (t.replied j .ok
              ([0x00] ++ handles.flatMap (fun h => beBytes 2 h.toNat)
                ++ [byteOf (s.entryCount j.client + ms.length)])))
      ∧ ∀ (m : List Byte) (rest : List (List Byte)),
          Executing s j 0x31
            (byteOf (ms.length + 1 + rest.length) :: (ms ++ m :: rest).flatten) →
          ms.length + 1 + rest.length ≤ 3 → ms.map parseBooking = bs.map some →
          (∀ d ∈ m :: rest, ∃ a b parts tail, d = a :: b :: parts :: tail
            ∧ d.length = descriptorLength parts) →
          (parseBooking m = none →
            exec .batch s = .next (s.replied j .invalid [byteOf (ms.length + 1)]))
          ∧ ∀ b status, parseBooking m = some b → bookingStatus j.client b t = some status →
              exec .batch s = .next (s.replied j status [byteOf (ms.length + 1)])

/-- CANCEL removes the requester's entry that the handle names, and CANCEL_LINE every entry it owns on a
line it holds; neither touches a line, and a handle that names none of the requester's entries is
answered NOT_FOUND (R64, R65, R68). -/
def Obligations.CancelRemovesEntries : Prop :=
  (∀ (s : State) (j : EngineJob) (h : Handle), EntriesNamed s →
    Executing s j 0x32 (beBytes 2 h.toNat) → s.isOpen j.client = true →
    (∀ k e, s.slot k = some e → e.handle = h → e.owner = j.client →
      exec .cancel s
        = .next ((s.setSlot k none).replied j .ok
            ([byteOf e.body.line.val] ++
              (match e.body.rep with
                | none => [0x00, 0x01]
                | some r => match r.count with
                  | .unlimited => [0x00, 0x00]
                  | .times n => beBytes 2 n))))
    ∧ ((∀ k e, s.slot k = some e → e.handle = h → e.owner ≠ j.client) →
        exec .cancel s = .next (s.replied j .notFound [])))
  ∧ ∀ (s : State) (j : EngineJob) (l : LineId), Executing s j 0x33 [byteOf l.val] →
      s.isOpen j.client = true →
      let mine : Entry → Bool := fun e => e.owner == j.client && e.body.line == l
      ((s.line l).heldBy j.client = false →
        exec .cancelLine s = .next (s.replied j .notHolder []))
      ∧ ((s.line l).heldBy j.client = true →
          exec .cancelLine s
            = .next ({ s with slots := tabulate 64 fun k => (s.slot k).filter fun e => !mine e
                }.replied j .ok [byteOf (s.slots.toList.countP fun o : Option Entry => o.any mine)]))

/-- Due order is an order of the entries of the calendar by signed distance and then by handle (R59),
and LIST_ENTRIES gives the requester's next three handles in it: from start handle 0 the first three, from a
handle of an entry it owns those that follow that entry; any other start handle is answered NOT_FOUND
(R67). -/
def Obligations.ListEntriesFollowsDueOrder : Prop :=
  (∀ s : State, s.dueOrder.Perm s.entries
    ∧ s.dueOrder.Pairwise fun a b =>
        signedDistance a.2.body.due s.timebase < signedDistance b.2.body.due s.timebase
        ∨ (signedDistance a.2.body.due s.timebase = signedDistance b.2.body.due s.timebase
            ∧ a.2.handle.toNat ≤ b.2.handle.toNat))
  ∧ ∀ (s : State) (j : EngineJob) (start : Handle), Executing s j 0x35 (beBytes 2 start.toNat) →
      s.isOpen j.client = true →
      let own := (s.dueOrder.filter fun p => p.2.owner == j.client).map fun p => p.2.handle
      let gives (listed : List Handle) : Host.Outcome State Fault Refusal :=
        .next (s.replied j .ok
          ([byteOf (s.entryCount j.client), byteOf (min 3 listed.length),
            flagCode (decide (3 < listed.length))]
            ++ (listed.take 3).flatMap fun h => beBytes 2 h.toNat))
      (start = 0 → exec .listEntries s = gives own)
      ∧ (EntriesNamed s → ∀ before behind, own = before ++ start :: behind →
          exec .listEntries s = gives behind)
      ∧ (start ≠ 0 → start ∉ own → exec .listEntries s = .next (s.replied j .notFound []))

/-! ## Subscriptions and queues -/

/-- SUBSCRIBE fills or replaces the requester's place and reports the former choice; UNSUBSCRIBE empties
it, or is answered NOT_FOUND (R104, R105). TAKE_CAPTURES removes up to 4 of the oldest capture records,
TAKE_NOTICES up to 3 of the oldest notice records and then clears the lost flag it reports (R109, R128).
Nothing else changes. -/
def Obligations.SubscriptionsAndTakesChangeTheirQueues : Prop :=
  (∀ (s : State) (j : EngineJob) (i : InputId), s.isOpen j.client = true →
    (∀ choice, Executing s j 0x40 [byteOf i.val, edgeChoiceCode choice] →
      exec .subscribe s
        = .next ((s.setClient j.client
            { s.client j.client with
              subs := (s.client j.client).subs.set i.val (some choice) }).replied j .ok
            [match (s.client j.client).sub i with
              | some former => edgeChoiceCode former
              | none => 0x00]))
    ∧ (Executing s j 0x41 [byteOf i.val] →
        ((s.client j.client).sub i = none →
          exec .unsubscribe s = .next (s.replied j .notFound []))
        ∧ ∀ former, (s.client j.client).sub i = some former →
            exec .unsubscribe s
              = .next ((s.setClient j.client
                  { s.client j.client with
                    subs := (s.client j.client).subs.set i.val none }).replied j .ok
                  [edgeChoiceCode former])))
  ∧ ∀ (s : State) (j : EngineJob), s.isOpen j.client = true →
    (Executing s j 0x42 [] →
      let q := (s.client j.client).captures
      exec .takeCaptures s
        = .next ((s.setClient j.client { s.client j.client with captures := q.drop 4 }).replied j
            .ok ([byteOf (min 4 q.length), byteOf (q.length - 4)]
              ++ (q.take 4).flatMap captureBytes)))
    ∧ (Executing s j 0x48 [] →
        let q := (s.client j.client).notices
        exec .takeNotices s
          = .next ((s.setClient j.client
              { s.client j.client with notices := q.drop 3, lost := false }).replied j .ok
              ([byteOf (min 3 q.length), byteOf (q.length - 3),
                flagCode (s.client j.client).lost] ++ (q.take 3).flatMap noticeBytes)))

/-- A posting to one client, by its session and its queue: none to a client that is not OPEN, merged
into the record with its key, appended below 12 records, and otherwise lost with the flag set; a posting
to every OPEN client makes the same posting to each (R126). -/
def Obligations.NoticePostingRules : Prop :=
  (∀ (c : ClientId) (kind : NoticeKind) (subject : BitVec 16) (detail : NoticeDetail)
      (tag : BitVec 16) (s : State),
    let q := (s.client c).notices
    let t := postNotice c kind subject detail tag s
    (s.isOpen c = false → t = s)
    ∧ (s.isOpen c = true →
        (∀ older n newer, q = older ++ n :: newer → n.hasKey kind subject = true →
          (∀ m ∈ older ++ newer, Notice.hasKey kind subject m = false) →
          t = s.setClient c { s.client c with
            notices := older ++ { n with repeats := min (n.repeats + 1) 255, detail := detail,
                                         tag := tag } :: newer })
        ∧ ((∀ m ∈ q, Notice.hasKey kind subject m = false) → q.length < 12 →
          t = s.setClient c { s.client c with
            notices := q ++ [{ kind := kind, subject := subject, detail := detail, tag := tag,
                               first := s.run, repeats := 1 }] })
        ∧ ((∀ m ∈ q, Notice.hasKey kind subject m = false) → 12 ≤ q.length →
          t = s.setClient c { s.client c with lost := true })))
  ∧ ∀ (kind : NoticeKind) (detail : NoticeDetail) (s : State) (c : ClientId),
      (postAll kind detail s).client c = (postNotice c kind 0 detail 0 s).client c

/-! ## The time authority and the clock -/

/-- CLAIM_AUTHORITY and YIELD_AUTHORITY: NOT_OPEN, INVALID, and then by the holder of the token; a load
that is armed is removed with SYNC CANCELLED; the client flags show who holds the token (R19, R20). -/
def Obligations.AuthorityIsClaimedAndYielded : Prop :=
  (∀ (s : State) (j : EngineJob) (ps : List Byte) (i : Instr),
    i = .claimAuthority ∧ Executing s j 0x51 ps ∨ i = .yieldAuthority ∧ Executing s j 0x52 ps →
    (s.isOpen j.client = false → exec i s = .next (s.replied j .notOpen []))
    ∧ (s.isOpen j.client = true → ps ≠ [] → exec i s = .next (s.replied j .invalid [])))
  ∧ (∀ (s : State) (c : ClientId), (clientFlags c s).getLsbD 2 = decide (s.authority = some c))
  ∧ ∀ (s : State) (j : EngineJob), s.isOpen j.client = true →
    (Executing s j 0x51 [] →
      (s.authority = none →
        exec .claimAuthority s
          = .next ({ s with authority := some j.client }.replied j .ok [byteOf j.client.val]))
      ∧ (s.authority = some j.client →
          exec .claimAuthority s = .next (s.replied j .already [byteOf j.client.val]))
      ∧ ∀ other, s.authority = some other → other ≠ j.client →
          exec .claimAuthority s = .next (s.replied j .held [byteOf other.val]))
    ∧ (Executing s j 0x52 [] →
        (s.authority ≠ some j.client →
          exec .yieldAuthority s = .next (s.replied j .noAuthority []))
        ∧ (s.authority = some j.client → s.armed = none →
            exec .yieldAuthority s = .next ({ s with authority := none }.replied j .ok []))
        ∧ (s.authority = some j.client → s.armed ≠ none →
            exec .yieldAuthority s
              = .next ((postNotice j.client .sync 0 (.sync .cancelled) 0
                  { s with authority := none, armed := none }).replied j .ok [])))

/-- SET_TIME and SHIFT: NO_AUTHORITY without the token, RANGE with the refused step and no change, and
otherwise the new count with the time SET, the run count and the divider not touched; a step that is not
forward, or made in a supply hold, does no more than post SHIFTED; a forward step outside a hold then makes the
late resolution of R70, which leaves no entry behind the count or at it; and SHIFTED stands at the head of an
OPEN client's empty queue (R5, R22 to R26, R59, R69). -/
def Obligations.SetTimeAndShiftStepTheCount : Prop :=
  ∀ (s : State) (j : EngineJob) (i : Instr) (new : Count),
    (i = .setTime ∧ Executing s j 0x53 (beBytes 6 new.toNat)
      ∨ i = .shift ∧ ∃ m : BitVec 32, m ≠ 0
          ∧ (new = s.timebase + m.setWidth 48
                ∧ Executing s j 0x54 ([directionCode .forward] ++ beBytes 4 m.toNat)
              ∨ new = s.timebase - m.setWidth 48
                ∧ Executing s j 0x54 ([directionCode .backward] ++ beBytes 4 m.toNat))) →
    s.isOpen j.client = true →
    let step := stepOf s.timebase new
    let result := [directionCode step.1] ++ beBytes 6 step.2
    let shifted : NoticeDetail := .shifted step.1 (BitVec.ofNat 32 (min step.2 4294967295))
    (s.authority ≠ some j.client → exec i s = .next (s.replied j .noAuthority []))
    ∧ (s.authority = some j.client → stepAllowed new s = false →
        exec i s = .next (s.replied j .range result))
    ∧ (s.authority = some j.client → stepAllowed new s = true →
        (∃ t : State, exec i s = .next (t.replied j .ok result) ∧ t.timebase = new ∧ t.timeState = .set
          ∧ t.run = s.run ∧ t.divider = s.divider ∧ t.authority = s.authority
          ∧ t.armed = s.armed ∧ t.clock = s.clock ∧ t.useCounts = s.useCounts
          ∧ t.inputs = s.inputs ∧ t.sync = s.sync
          ∧ (EntriesNamed s → step.1 = .forward → s.supplyState = .normal →
              ∀ k e, t.slot k = some e →
                isBehind e.body.due t.timebase = false ∧ e.body.due ≠ t.timebase)
          ∧ ∀ c, s.isOpen c = true → (s.client c).notices = [] →
              (t.client c).notices.head?
                = some { kind := .shifted, subject := 0, detail := shifted, tag := 0,
                         first := s.run, repeats := 1 })
        ∧ (step.1 ≠ .forward ∨ s.supplyState = .hold →
            exec i s
              = .next ((postAll .shifted shifted
                  { s with timebase := new, timeState := .set }).replied j .ok result))
        ∧ (step.1 = .forward → s.supplyState = .normal →
            exec i s
              = .next ((resolveLate (postAll .shifted shifted
                  { s with timebase := new, timeState := .set })).replied j .ok result)))

/-- ARM_SYNC records or replaces the load, DISARM_SYNC removes it or is answered NOT_FOUND, both only for
the authority holder (R22, R28, R29). -/
def Obligations.SyncLoadIsArmedAndDisarmed : Prop :=
  ∀ (s : State) (j : EngineJob), s.isOpen j.client = true →
    (∀ (value : Count) (edge : EdgeKind),
      Executing s j 0x55 (beBytes 6 value.toNat ++ [edgeKindCode edge]) →
      (s.authority ≠ some j.client → exec .armSync s = .next (s.replied j .noAuthority []))
      ∧ (s.authority = some j.client →
          exec .armSync s
            = .next ({ s with armed := some { value := value, edge := edge } }.replied j .ok
                [flagCode s.armed.isSome])))
    ∧ (Executing s j 0x56 [] →
        (s.authority ≠ some j.client → exec .disarmSync s = .next (s.replied j .noAuthority []))
        ∧ (s.authority = some j.client → s.armed = none →
            exec .disarmSync s = .next (s.replied j .notFound []))
        ∧ ∀ load, s.authority = some j.client → s.armed = some load →
            exec .disarmSync s
              = .next ({ s with armed := none }.replied j .ok
                  (beBytes 6 load.value.toNat ++ [edgeKindCode load.edge])))

/-- Failover, at a missing edge in MAIN: BACKUP and DEGRADED, every strict entry withdrawn and no other, the
counts and the lines not touched, and in each OPEN client's queue the CLOCK notice and then WITHDRAWN with
reason STRICT for each of its strict entries that asks for notices, in due order (R9, R10, R76). The missing
edge is 4 backup cycles without a main edge: a failover that comes earlier waits for those that are lacking,
with nothing else due (R9, log 8). In any other clock state there is no failover (R9, log 1). -/
def Obligations.FailoverSwitchesToBackup : Prop :=
  ∀ s : State,
    (s.clock = some .main → 4 ≤ s.missingCycles →
      ∃ t, exec .failover s = .next t ∧ t.clock = some .backup ∧ t.quality = .degraded
        ∧ t.missingCycles = 0
        ∧ t = { s with clock := t.clock, missingCycles := t.missingCycles, slots := t.slots,
                       clients := t.clients }
        ∧ (∀ k, t.slot k = (s.slot k).filter fun e => !e.body.strict)
        ∧ ∀ c,
            let withdrawn := s.dueOrder.filter fun p =>
              p.2.body.strict && p.2.owner == c && p.2.body.notify != .none
            t.client c
              = (withdrawn.foldl
                  (fun u p =>
                    postNotice c .withdrawn p.2.handle (.withdrawn .strict) p.2.body.tag u)
                  (postNotice c .clock 0 (.clock .backup) 0 s)).client c)
    ∧ (s.clock = some .main → s.phase = .running → dueEvents s = [] → s.missingCycles < 4 →
        exec .failover s = exec .failover { s with missingCycles := 4 })
    ∧ (s.clock ≠ some .main → exec .failover s = .next s)

/-- RESTORE_CLOCK begins a restart from BACKUP, with the start window of 80000 backup cycles; it is
refused with NO_AUTHORITY, INVALID_STATE in MAIN and BUSY in RESTARTING (R11). The first main edge ends
the start window; the restart ends in success at 16384 good cycles, or in failure by a missing edge of 4
backup cycles after the first main edge or by the end of the window, in each case once the request has
completed (R9, R12). With nothing due a failure that comes early brings the backup cycles that it lacks, if no
tick comes in them, and a success its last main cycle, the model's choice of log 8; with the request not yet
completed it does nothing. At other moments these commands do nothing (log 1). -/
def Obligations.RestartBeginsAndEnds : Prop :=
  (∀ (s : State) (j : EngineJob), Executing s j 0x57 [] → s.isOpen j.client = true →
    (s.authority ≠ some j.client → exec .restoreClock s = .next (s.replied j .noAuthority []))
    ∧ (s.authority = some j.client →
        (s.clock = some .backup →
          exec .restoreClock s
            = .next ({ s with clock := some .restarting, restartProgress := 0,
                              startWindow := some 80000, missingCycles := 0 }.replied j .ok []))
        ∧ (s.clock = some .main →
            exec .restoreClock s = .next (s.replied j .invalidState []))
        ∧ (s.clock = some .restarting → exec .restoreClock s = .next (s.replied j .busy []))))
  ∧ (∀ s : State, s.clock = some .restarting →
      let completed := ∀ j, s.engine = some j → j.frame.kind = 0x57 → j.outcome ≠ some (.ok, [])
      let quiet := s.phase = .running ∧ dueEvents s = []
      let finish (clock : ClockState) (detail : ClockDetail) (divider : Fin 8) :
          Host.Outcome State Fault Refusal :=
        .next (postAll .clock (.clock detail)
          { s with clock := some clock, restartProgress := 0, startWindow := none,
                   missingCycles := 0, divider := divider })
      (∀ left, s.startWindow = some left →
        (0 < left →
          exec .firstMainEdge s
            = .next { s with startWindow := none, restartProgress := 0, missingCycles := 0 })
        ∧ (left = 0 → exec .firstMainEdge s = .next s)
        ∧ exec .restartMissingEdge s = .next s
        ∧ exec .restartSuccess s = .next s
        ∧ (left = 0 → completed →
            exec .startWindowExpiry s = finish .backup .restoreFailed s.divider)
        ∧ (left = 0 → ¬completed → exec .startWindowExpiry s = .next s)
        ∧ (0 < left → left + s.divider.val < 8 → quiet →
            (completed →
              exec .startWindowExpiry s
                = finish .backup .restoreFailed (Fin.ofNat 8 (s.divider.val + left)))
            ∧ (¬completed → exec .startWindowExpiry s = .next s))
        ∧ (0 < left → 8 ≤ left + s.divider.val → exec .startWindowExpiry s = .next s))
      ∧ (s.startWindow = none →
          exec .firstMainEdge s = .next s
          ∧ exec .startWindowExpiry s = .next s
          ∧ (4 ≤ s.missingCycles → completed →
              exec .restartMissingEdge s = finish .backup .restoreFailed s.divider)
          ∧ (4 ≤ s.missingCycles → ¬completed → exec .restartMissingEdge s = .next s)
          ∧ (s.missingCycles < 4 → quiet →
              (4 - s.missingCycles + s.divider.val < 8 →
                (completed →
                  exec .restartMissingEdge s
                    = finish .backup .restoreFailed
                        (Fin.ofNat 8 (s.divider.val + (4 - s.missingCycles))))
                ∧ (¬completed → exec .restartMissingEdge s = .next s))
              ∧ (8 ≤ 4 - s.missingCycles + s.divider.val →
                  exec .restartMissingEdge s = .next s))
          ∧ (s.restartProgress < 16383 → exec .restartSuccess s = .next s)
          ∧ (s.restartProgress = 16383 → quiet →
              (completed → exec .restartSuccess s = finish .main .main s.divider)
              ∧ (¬completed → exec .restartSuccess s = .next s))
          ∧ (16384 ≤ s.restartProgress → completed →
              exec .restartSuccess s = finish .main .main s.divider)
          ∧ (16384 ≤ s.restartProgress → ¬completed → exec .restartSuccess s = .next s)))
  ∧ ∀ s : State, s.clock ≠ some .restarting →
      exec .firstMainEdge s = .next s ∧ exec .restartMissingEdge s = .next s
      ∧ exec .restartSuccess s = .next s ∧ exec .startWindowExpiry s = .next s

/-! ## The supply -/

/-- The hold filter: in NORMAL it begins below the threshold and is dropped at or above it; in HOLD it
begins above the threshold plus 80 mV and is dropped at or below that; a filter that runs keeps its latch
(R162, R163, R164). A return that comes when the filter has its 20 ticks, before the hold event, drops it too:
the model's choice of log 28. Hold entry, 20 ticks after the filter began: HOLD, every HELD line at its park
level with no pulse, FREE lines and the calendar as they were, and SUPPLY HOLD_ENTERED to every OPEN client;
without a confirmed filter nothing (R53, R163, log 1). -/
def Obligations.HoldFilterRunsAndHoldEntryParksTheLines : Prop :=
  (∀ (s : State) (v : Nat) (threshold : HoldThreshold) (level : Nat),
    (threshold, level) ∈ [(HoldThreshold.v280, 2800000), (.v295, 2950000), (.v310, 3100000)] →
    s.options.threshold = threshold → 2400000 ≤ v → 1200000 ≤ s.supplyUv →
    (s.sampled = false → exec (.supplyCrossing v) s = .next { s with supplyUv := v })
    ∧ (s.sampled = true → s.supplyState = .normal →
        (v < level → s.holdFilter = none →
          exec (.supplyCrossing v) s
            = .next { s with supplyUv := v, holdFilter := some s.run })
        ∧ (∀ latched, v < level → s.holdFilter = some latched →
            exec (.supplyCrossing v) s = .next { s with supplyUv := v })
        ∧ (level ≤ v →
            exec (.supplyCrossing v) s = .next { s with supplyUv := v, holdFilter := none }))
    ∧ (s.sampled = true → s.supplyState = .hold →
        (level + 80000 < v → s.holdFilter = none →
          exec (.supplyCrossing v) s
            = .next { s with supplyUv := v, holdFilter := some s.run })
        ∧ (∀ latched, level + 80000 < v → s.holdFilter = some latched →
            exec (.supplyCrossing v) s = .next { s with supplyUv := v })
        ∧ (v ≤ level + 80000 →
            exec (.supplyCrossing v) s = .next { s with supplyUv := v, holdFilter := none })))
  ∧ ∀ s : State,
    (∀ latched, s.supplyState = .normal → s.holdFilter = some latched →
      20 ≤ distanceAhead s.run latched →
      ∃ t, exec .holdEntry s = .next t
        ∧ t = { s with supplyState := .hold, holdFilter := none, lines := t.lines,
                       clients := t.clients }
        ∧ (∀ l lease, (s.line l).lease = some lease →
            t.line l = { s.line l with level := lease.park, pulse := none })
        ∧ (∀ l, (s.line l).lease = none → t.line l = s.line l)
        ∧ ∀ c, t.client c
            = (postNotice c .supply 0 (.supply .holdEntered) 0 s).client c)
    ∧ ((s.supplyState = .hold ∨ ∀ latched, s.holdFilter = some latched →
          distanceAhead s.run latched < 20) →
        exec .holdEntry s = .next s)

/-- Hold exit, 20 ticks after the filter began: NORMAL, then SUPPLY HOLD_LEFT, which stands at the head of an
OPEN client's empty queue, then the late resolution of R70, after which no entry is behind the count or at it;
the counts are not touched, and a line with no entry on it keeps its record; without a confirmed filter nothing
(R53, R69, R164, log 1). Behind is as R6 reads it, also for a due that a hold's ticks have carried more than
2^47 behind, the model's choice of log 29. -/
def Obligations.HoldExitResolvesLateEntries : Prop :=
  ∀ s : State,
    (∀ latched, s.supplyState = .hold → s.holdFilter = some latched →
      20 ≤ distanceAhead s.run latched →
      exec .holdExit s
        = .next (resolveLate (postAll .supply (.supply .holdLeft)
            { s with supplyState := .normal, holdFilter := none }))
      ∧ ∃ t, exec .holdExit s = .next t ∧ t.supplyState = .normal ∧ t.holdFilter = none
        ∧ t.timebase = s.timebase ∧ t.run = s.run ∧ t.useCounts = s.useCounts
        ∧ (EntriesNamed s → ∀ k e, t.slot k = some e →
            isBehind e.body.due t.timebase = false ∧ e.body.due ≠ t.timebase)
        ∧ (∀ l, (∀ k e, s.slot k = some e → e.body.line ≠ l) → t.line l = s.line l)
        ∧ ∀ c, s.isOpen c = true → (s.client c).notices = [] →
            (t.client c).notices.head?
              = some { kind := .supply, subject := 0, detail := .supply .holdLeft, tag := 0,
                       first := s.run, repeats := 1 })
    ∧ ((s.supplyState = .normal ∨ ∀ latched, s.holdFilter = some latched →
          distanceAhead s.run latched < 20) →
        exec .holdExit s = .next s)

/-! ## The option store -/

/-- STORE_OPTIONS: NO_AUTHORITY, BUSY, or the store accepted with the target and generation of R173, the
target's record becoming not good at once (R173). That the equations leave the bytes of the target copy as they
were is the model's choice of log 27. -/
def Obligations.StoreOptionsIsAccepted : Prop :=
  ∀ (s : State) (j : EngineJob) (o : Options), FieldsInRange o →
    addressesValid o.address2 o.address3 = true →
    Executing s j 0x61 (imageBytes o) → s.isOpen j.client = true →
    (s.authority ≠ some j.client → exec .storeOptions s = .next (s.replied j .noAuthority []))
    ∧ (s.authority = some j.client → s.store ≠ none →
        exec .storeOptions s = .next (s.replied j .busy []))
    ∧ (s.authority = some j.client → s.store = none →
        let job (target : CopyName) (g : BitVec 16) : StoreJob :=
          { requester := j.client, target := target, generation := g, image := imageBytes o,
            acceptedAt := s.run }
        let next (g : BitVec 16) : BitVec 16 := if g = 65535 then 1 else g + 1
        let newerB := s.recordB.good = true ∧ (s.recordA.good = false
          ∨ (1 ≤ (s.recordB.generation - s.recordA.generation).toNat
              ∧ (s.recordB.generation - s.recordA.generation).toNat ≤ 32767))
        (s.recordA.good = false → s.recordB.good = false →
          exec .storeOptions s
            = .next ({ s with recordA := { s.recordA with good := false },
                              store := some (job .a 1) }.replied j .ok [0x00, 0x00, 0x01]))
        ∧ (newerB →
            exec .storeOptions s
              = .next ({ s with recordA := { s.recordA with good := false },
                                store := some (job .a (next s.recordB.generation)) }.replied j .ok
                  ([0x00] ++ beBytes 2 (next s.recordB.generation).toNat)))
        ∧ (s.recordA.good = true → ¬newerB →
            exec .storeOptions s
              = .next ({ s with recordB := { s.recordB with good := false },
                                store := some (job .b (next s.recordA.generation)) }.replied j .ok
                  ([0x01] ++ beBytes 2 (next s.recordA.generation).toNat))))

/-- Store completion, 8000 ticks after acceptance: the target copy holds the bytes read back, its record
is good exactly when they are the image, the generation and the right checksum, STORE is posted to the
requester, and the working options stay (R174); before that nothing (log 1). That the record of the target was
not good during the store (R173) is the invariant TargetNotGood. The bytes read back are the command's operand
(log 15). -/
def Obligations.StoreCompletionVerifies : Prop :=
  ∀ (s : State) (job : StoreJob) (back : List Byte), s.store = some job → back.length = 32 →
    (8000 ≤ distanceAhead s.run job.acceptedAt →
      let body := job.image ++ beBytes 2 job.generation.toNat
      let verified := back = body ++ beBytes 2 (crc16 body).toNat
      ∃ t, exec (.storeCompletion back) s = .next t ∧ t.store = none
        ∧ t = { s with store := none, copyA := t.copyA, copyB := t.copyB, recordA := t.recordA,
                       recordB := t.recordB, clients := t.clients }
        ∧ t.clients = (postNotice job.requester .store 0 (.store (decide verified) job.target) 0
            s).clients
        ∧ (job.target = .a → t.copyA = back ∧ t.copyB = s.copyB ∧ t.recordB = s.recordB
            ∧ (verified → t.recordA = { good := true, generation := job.generation })
            ∧ (¬verified → t.recordA = s.recordA)
            ∧ (TargetNotGood s → (t.recordA.good = true ↔ verified)))
        ∧ (job.target = .b → t.copyB = back ∧ t.copyA = s.copyA ∧ t.recordA = s.recordA
            ∧ (verified → t.recordB = { good := true, generation := job.generation })
            ∧ (¬verified → t.recordB = s.recordB)
            ∧ (TargetNotGood s → (t.recordB.good = true ↔ verified))))
    ∧ (distanceAhead s.run job.acceptedAt < 8000 →
        exec (.storeCompletion back) s = .next s)

/-! ## Resets and the start sequence -/

/-- The supply rising from below 1.2 V, falling below 2.40 V or below 1.2 V, and 16 cycles of RESETn low:
every block at its reset state, with the cause records, the copies and the pins as R168, R171 and R175 give
them. A low on RESETn of fewer than 16 cycles does nothing (R177). The values a reset leaves where the
chapters give none are those of log 6, the target copy of a store is free by log 14, and the power-up flag
below 1.2 V by log 17. -/
def Obligations.ResetCausesResetTheDevice : Prop :=
  ∀ (s : State) (v n : Nat),
    let resetTo (t : State) : Prop :=
      t = { State.reset with
            copyA := t.copyA, copyB := t.copyB, powerUpFlag := t.powerUpFlag,
            collapseLatch := t.collapseLatch, supplyUv := t.supplyUv, resetn := t.resetn,
            selA := s.selA, selB := s.selB, fourWire := .notReady (s.selA || s.selB),
            twoWire := t.twoWire, rawInputs := s.rawInputs, rawSync := s.rawSync,
            freeCount := t.freeCount, pending := s.pending }
      ∧ (∃ busy, t.twoWire = .notReady busy)
      ∧ (s.store = none → t.copyA = s.copyA ∧ t.copyB = s.copyB)
      ∧ ∀ job, s.store = some job →
          (job.target = .a → t.copyB = s.copyB
            ∧ (t.copyA = s.copyA ∨ t.copyA = copyBytes job.image job.generation
                ∨ copyGood t.copyA = false))
          ∧ (job.target = .b → t.copyA = s.copyA
            ∧ (t.copyB = s.copyB ∨ t.copyB = copyBytes job.image job.generation
                ∨ copyGood t.copyB = false))
    (s.supplyUv < 1200000 → 1200000 ≤ v →
      ∃ t, exec (.powerReset v) s = .next t ∧ resetTo t ∧ t.powerUpFlag = true
        ∧ t.collapseLatch = s.collapseLatch ∧ t.supplyUv = v ∧ t.resetn = s.resetn)
    ∧ (2400000 ≤ s.supplyUv → v < 2400000 →
        ∃ t, exec (.supplyCollapse v) s = .next t ∧ resetTo t ∧ t.supplyUv = v
          ∧ t.resetn = s.resetn
          ∧ (1200000 ≤ v → t.collapseLatch = true ∧ t.powerUpFlag = s.powerUpFlag)
          ∧ (v < 1200000 → t.collapseLatch = false))
    ∧ (1200000 ≤ s.supplyUv → s.supplyUv < 2400000 → v < 1200000 →
        ∃ flag free, exec (.supplyFallingBelow1V2 v) s
          = .next { s with supplyUv := v, collapseLatch := false, powerUpFlag := flag,
                           freeCount := free })
    ∧ (16 ≤ n →
        ∃ t, exec (.pinReset n) s = .next t ∧ resetTo t ∧ t.powerUpFlag = s.powerUpFlag
          ∧ t.collapseLatch = s.collapseLatch ∧ t.supplyUv = s.supplyUv ∧ t.resetn = .low)
    ∧ (n < 16 → exec (.pinReset n) s = .next s)

/-- What reset leaves, as the chapters give it: both counts 0 and time UNSET (R2 to R4), no clock state
(R8), no authority and no load (R18), every line FREE at FLOAT (R33), the calendar empty with use counts
0 (R54), the inputs LOW with sequence 0 (R98), every client CLOSED with nothing (R103, R108, R112, R125,
R133, R141, R152), the engine free with the pointer at client 3 (R135, R147), the ports NOT_READY (R150,
R156) and the supply NORMAL without a filter (R162). That neither port record says a transaction is in
progress (notReady false), and that the queue of commands is empty, are the model's choice of log 4. -/
def Obligations.ResetValues : Prop :=
  let s := State.reset
  s.timebase = 0 ∧ s.run = 0 ∧ s.timeState = .unset ∧ s.divider = 0 ∧ s.clock = none
    ∧ s.missingCycles = 0 ∧ s.restartProgress = 0 ∧ s.startWindow = none ∧ s.proving = none
    ∧ s.authority = none ∧ s.armed = none ∧ s.sync.pending = none ∧ s.choice = none
    ∧ (∀ l, s.line l = { lease := none, level := .float, pulse := none, waiters := [] })
    ∧ (∀ k, s.slot k = none ∧ s.useCount k = 0)
    ∧ (∀ i, s.input i = { level := .low, pending := none, sequence := 0 })
    ∧ (∀ c, (s.client c).session = .closed ∧ (s.client c).lost = false
        ∧ (s.client c).notices = [] ∧ (s.client c).captures = []
        ∧ (∀ i, (s.client c).sub i = none) ∧ (s.client c).request = none
        ∧ (s.client c).response = .empty
        ∧ (s.client c).marks = { collided := false, frameErr := false, discarded := false })
    ∧ s.engine = none ∧ s.pointer = 3 ∧ s.fourWire = .notReady false
    ∧ s.twoWire = .notReady false ∧ s.supplyState = .normal ∧ s.holdFilter = none
    ∧ s.store = none ∧ s.pending = []

/-- The release of a reset: above 2.50 V with RESETn high the start sequence begins, the last reset cause
is POWER, SUPPLY or PIN by the two records, and both are cleared (R168, R177, R178). Clock start ends at once
in BACKUP with start clock BACKUP; with start clock MAIN it ends in MAIN at 16384 consecutive good main
cycles, a missing edge returning the count to 0, or in BACKUP when the 80000 backup cycles have passed; then
the divider and both counts are 0 and the ports are ready (R9, R14, R161). The supply level and RESETn are
operands of the first command (log 13), the cycles that pass those of CLOCK_START (log 16); with no command
queued one cycle passes (log 3). That the count after a missing edge begins anew at the next main edge
(StartCycleCounted) is deduced (log 8). -/
def Obligations.StartSequenceAndClockStart : Prop :=
  ∀ s : State,
    (∀ v, s.phase = .heldInReset → 1200000 ≤ s.supplyUv → 2500000 < v →
      exec (.startSequence v .high) s
        = .next { s with
            supplyUv := v, resetn := .high, powerUpFlag := false, collapseLatch := false,
            lastReset := if s.powerUpFlag = true then .power
              else if s.collapseLatch = true then .supply else .pin,
            phase := .beforeOptionLoad })
    ∧ (∀ v, v ≤ 2500000 → exec (.startSequence v .high) s = .next s)
    ∧ (∀ v, exec (.startSequence v .low) s = .next s)
    ∧ (∀ cycles, s.phase ≠ .beforeClockStart → exec (.clockStart cycles) s = .next s)
    ∧ (∀ (cycles : List Oscillator) (clock : ClockState), s.phase = .beforeClockStart →
        clock = .main ∧ (∃ p, s.proving = some p ∧ 16384 ≤ p.good)
          ∨ clock = .backup
            ∧ (s.proving = none ∨ ∃ p, s.proving = some p ∧ p.good < 16384 ∧ p.left = 0) →
        ∃ t, exec (.clockStart cycles) s = .next t
          ∧ t = { s with
              clock := some clock, restartProgress := 0, startWindow := none, missingCycles := 0,
              proving := none, divider := 0, timebase := 0, run := 0,
              phase := .running, fourWire := t.fourWire, twoWire := t.twoWire }
          ∧ (∀ void, s.fourWire = .notReady void → s.selA = false → s.selB = false →
              t.fourWire = .idle)
          ∧ (∀ void, s.fourWire = .notReady void → s.selA = true ∨ s.selB = true →
              t.fourWire = .notReady void)
          ∧ (s.twoWire = .notReady false → t.twoWire = .idle)
          ∧ (s.twoWire = .notReady true → t.twoWire = .ignoring)
          ∧ (s.pending = [] → step s = .next t))
    ∧ ∀ p : Proving, s.phase = .beforeClockStart → s.clock = none → s.missingCycles < 4 →
        s.proving = some p → p.good < 16384 → 0 < p.left →
        exec (.clockStart []) s = .next s
        ∧ (∀ (o : Oscillator) (rest : List Oscillator), ∃ u, StartCycleCounted o p s u
            ∧ ∀ t, exec (.clockStart rest) u = .next t →
                exec (.clockStart (o :: rest)) s
                  = .next (if t.phase = .running then t else s))
        ∧ (s.pending = [] →
            ∃ o u free, StartCycleCounted o p s u ∧ step s = .next { u with freeCount := free })

/-- The option load: both records say whether their copy is good; with no good copy the default image; with
one good copy, or the newer of two, the image stored there, with 3Ah and 3Bh in place of an invalid address
pair; and every line at its idle level, and clock start begins with the main oscillator to be proven within
80000 backup cycles, or with none for start clock BACKUP (R14, R171, R172, R178); that step 3 is taken with
the load is the model's choice of log 21. -/
def Obligations.OptionLoadChoosesTheOptions : Prop :=
  ∀ (s : State), s.phase = .beforeOptionLoad →
    ∃ t, exec .optionLoad s = .next t
      ∧ t = { s with phase := .beforeClockStart, options := t.options,
                     optionStatus := t.optionStatus, recordA := t.recordA, recordB := t.recordB,
                     lines := t.lines, proving := t.proving, missingCycles := 0 }
      ∧ (t.options.startClock = .main →
          t.proving = some { left := 80000, edgeSeen := false, good := 0 })
      ∧ (t.options.startClock = .backup → t.proving = none)
      ∧ (∀ l, t.line l = { s.line l with level := t.idleLevel l })
      ∧ t.recordA.good = copyGood s.copyA ∧ t.recordB.good = copyGood s.copyB
      ∧ (copyGood s.copyA = false → copyGood s.copyB = false →
          t.options = Options.default ∧ t.optionStatus = .defaults)
      ∧ ∀ (o : Options) (g : BitVec 16), FieldsInRange o → g ≠ 0 →
          let used := if addressesValid o.address2 o.address3 = true then o
            else { o with address2 := 0x3A, address3 := 0x3B }
          (s.copyA = copyBytes (imageBytes o) g →
            t.recordA = { good := true, generation := g }
            ∧ (copyGood s.copyB = false → t.options = used ∧ t.optionStatus = .copyA)
            ∧ (copyGood s.copyB = true →
                32768 ≤ (copyGeneration s.copyB - g).toNat ∨ copyGeneration s.copyB = g →
                t.options = used ∧ t.optionStatus = .copyA))
          ∧ (s.copyB = copyBytes (imageBytes o) g →
              t.recordB = { good := true, generation := g }
              ∧ (copyGood s.copyA = false → t.options = used ∧ t.optionStatus = .copyB)
              ∧ (copyGood s.copyA = true →
                  1 ≤ (g - copyGeneration s.copyA).toNat →
                  (g - copyGeneration s.copyA).toNat ≤ 32767 →
                  t.options = used ∧ t.optionStatus = .copyB))

/-! ## The ports -/

/-- The seven flags of the port status byte (R151), and when ATTN is asserted (R130). -/
def Obligations.StatusByteAndAttention : Prop :=
  ∀ (c : ClientId) (s : State),
    (readyStatusByte c s).getLsbD 7 = (s.client c).request.isNone
    ∧ ((readyStatusByte c s).getLsbD 6 = true ↔
        ∃ q k r, (s.client c).response = .done q k r)
    ∧ (readyStatusByte c s).getLsbD 5 = s.attention c
    ∧ (readyStatusByte c s).getLsbD 4 = (s.client c).marks.collided
    ∧ (readyStatusByte c s).getLsbD 3 = (s.client c).marks.frameErr
    ∧ (readyStatusByte c s).getLsbD 2 = (s.client c).marks.discarded
    ∧ (readyStatusByte c s).getLsbD 1 = false ∧ (readyStatusByte c s).getLsbD 0 = false
    ∧ notReadyStatusByte = 0x02
    ∧ (s.attention c = true ↔
        (s.client c).session = .lapsed
        ∨ ∃ d, (s.client c).session = .opened d
          ∧ ((d.mask = .notices ∨ d.mask = .both) ∧ (s.client c).notices ≠ []
            ∨ (d.mask = .captures ∨ d.mask = .both) ∧ (s.client c).captures ≠ []
            ∨ (s.client c).lost = true))

/-- A select that becomes active in IDLE opens its client's transaction with the status byte of that
moment (R150, R151); while the other is active it makes a collision, which voids the transaction and
marks COLLIDED for clients 0 and 1, in VOID again (R155). In NOT_READY there is no transaction and no mark
(R161). -/
def Obligations.SelectsOpenAndCollide : Prop :=
  ∀ (s : State) (sel : Select),
    let c : ClientId := if sel = .selA then 0 else 1
    let selected : State :=
      if sel = .selA then { s with selA := true } else { s with selB := true }
    let self : Bool := if sel = .selA then s.selA else s.selB
    let other : Bool := if sel = .selA then s.selB else s.selA
    (self = false → other = false → s.fourWire = .idle →
      exec (.selectActive sel) s
        = .next { selected with
            fourWire := .active { client := c, bits := [], status := readyStatusByte c s,
                                  response := none } })
    ∧ (∀ rel, self = false → other = false → s.fourWire = .notReady rel →
        exec (.selectActive sel) s = .next selected)
    ∧ (self = false → other = true → (∀ rel, s.fourWire ≠ .notReady rel) →
        s.fourWire ≠ .idle →
        ∃ t, exec (.selectCollision sel) s = .next t
          ∧ t = { selected with fourWire := .void, clients := t.clients }
          ∧ ∀ d, t.client d
              = if d = 0 ∨ d = 1 then
                  { s.client d with marks := { (s.client d).marks with collided := true } }
                else s.client d)
    ∧ ∀ rel, self = false → other = true → s.fourWire = .notReady rel →
        exec (.selectCollision sel) s = .next { selected with fourWire := .notReady true }

/-- The release of the select of a transaction, whose bits came before it or come with it (log 11): a good frame
is placed in the empty request slot, or discarded with DISCARDED marked; a part-byte or a bad form is discarded
with FRAME_ERR marked; a release without an edge is no transaction, and one after a FETCH marks nothing; the
marks that the status byte carried are cleared with the eighth bit; and the port is IDLE (R150, R152, R153,
R154). VOID returns to IDLE, and NOT_READY leaves once ports are ready, when no select is active any more (R150,
R161). -/
def Obligations.SelectReleaseJudgesTheFrame : Prop :=
  ∀ (s : State) (sel : Select), (if sel = .selA then s.selA else s.selB) = true →
    let c : ClientId := if sel = .selA then 0 else 1
    let other : Bool := if sel = .selA then s.selB else s.selA
    let unselected : State :=
      if sel = .selA then { s with selA := false } else { s with selB := false }
    let released : State := { unselected with fourWire := .idle }
    (∀ (before bits : List Bool) (status : Byte) (response : Option (List Byte)),
      s.fourWire = .active { client := c, bits := before, status := status, response := response } →
      let received := before ++ bits
      let cleared : Marks :=
        { collided := (s.client c).marks.collided && !status.getLsbD 4,
          frameErr := (s.client c).marks.frameErr && !status.getLsbD 3,
          discarded := (s.client c).marks.discarded && !status.getLsbD 2 }
      let marks : Marks :=
        if before.length < 8 ∧ 8 ≤ received.length then cleared else (s.client c).marks
      (received = [] → exec (.selectRelease sel bits) s = .next released)
      ∧ (received ≠ [] → received.length < 8 →
          exec (.selectRelease sel bits) s
            = .next (released.setClient c { s.client c with
                marks := { (s.client c).marks with frameErr := true } }))
      ∧ (received.take 8 = List.replicate 8 false →
          exec (.selectRelease sel bits) s
            = .next (released.setClient c { s.client c with marks := marks }))
      ∧ (∀ (kind sequence : Byte) (params : List Byte), kind ≠ 0 → params.length ≤ 64 →
          let body := [kind, sequence, byteOf params.length] ++ params
          received = (body ++ [crc8 body]).flatMap bitsOfByte →
          ((s.client c).request = none →
            exec (.selectRelease sel bits) s
              = .next (released.setClient c { s.client c with
                  request := some { kind := kind, sequence := sequence, params := params },
                  marks := marks }))
          ∧ ((s.client c).request ≠ none →
              exec (.selectRelease sel bits) s
                = .next (released.setClient c { s.client c with
                    marks := { marks with discarded := true } })))
      ∧ (∀ (bytes : List Byte) (part : List Bool), bytes ≠ [] → bytes.head? ≠ some 0 →
          part.length < 8 → (part ≠ [] ∨ parseFrame bytes = none) →
          received = bytes.flatMap bitsOfByte ++ part →
          exec (.selectRelease sel bits) s
            = .next (released.setClient c { s.client c with
                marks := { marks with frameErr := true } })))
    ∧ (∀ (status : Byte) (response : Option (List Byte)) (bits : List Bool),
        s.fourWire = .active { client := c, bits := List.replicate 8 false, status := status,
                               response := response } →
        exec (.selectRelease sel bits) s = .next released)
    ∧ (∀ bits : List Bool, s.fourWire = .void →
        exec (.selectRelease sel bits) s
          = .next (if other = true then unselected else released))
    ∧ ∀ (bits : List Bool) (rel : Bool), s.fourWire = .notReady rel →
        exec (.selectRelease sel bits) s
          = .next (if other = true then unselected
              else if s.phase = .running then released
              else { unselected with fourWire := .notReady false })

/-- The eighth bit of the first byte of a four-wire transaction: the marks that the status byte carried
set are cleared; a first byte of 00h takes the response frame from the slot, and the device sends the
status byte, then that frame, then FFh, and in any other transaction FFh after the status byte; neither
slot changes (R144, R149, R152, R154). -/
def Obligations.FirstByteFetchesAndClearsMarks : Prop :=
  ∀ (s : State) (c : ClientId) (status : Byte),
    s.fourWire = .active { client := c, bits := [], status := status, response := none } →
    let cleared : Client := { s.client c with
      marks := { collided := (s.client c).marks.collided && !status.getLsbD 4,
                 frameErr := (s.client c).marks.frameErr && !status.getLsbD 3,
                 discarded := (s.client c).marks.discarded && !status.getLsbD 2 } }
    (exec .fetch s
      = .next { s.setClient c cleared with
          fourWire := .active { client := c, bits := List.replicate 8 false, status := status,
                                response := some (fetchFrame c s) } })
    ∧ (∀ first : Byte, first ≠ 0 →
        exec (.statusByteSentWhole first) s
          = .next { s.setClient c cleared with
              fourWire := .active { client := c, bits := bitsOfByte first, status := status,
                                    response := none } })
    ∧ (∀ (t : FourWireTransaction) (frame : List Byte) (k : Nat), t.response = some frame →
        t.outByte 0 = t.status ∧ (∀ h : k < frame.length, t.outByte (k + 1) = frame[k])
        ∧ (frame.length ≤ k → t.outByte (k + 1) = 0xFF))
    ∧ (∀ (t : FourWireTransaction) (k : Nat), t.response = none →
        t.outByte 0 = t.status ∧ t.outByte (k + 1) = 0xFF)
    ∧ (∀ q k r, (s.client c).response = .done q k r →
        fetchFrame c s = responseFrame q r.status r.result r.flags)
    ∧ (∀ q k, (s.client c).response = .pending q k →
        fetchFrame c s = responseFrame q .pending [] (clientFlags c s))
    ∧ ((s.client c).response = .empty →
        fetchFrame c s = responseFrame 0 .noResponse [] (clientFlags c s))

/-- A two-wire write to a client's address: a good frame is acknowledged byte by byte and placed; a kind
byte that finds the request slot occupied is refused with DISCARDED marked; a length byte above 64 and a wrong
checksum are refused with FRAME_ERR marked; a byte after the checksum is refused without a mark, and the frame
stands; what follows a refused byte is ignored; another address is not acknowledged, and none is in NOT_READY
(R156, R157, R161). A START inside a frame acts first, as BUS_ERROR gives it (R159). That the state then stands in
the ninth clock of an acknowledged byte (sdaAck true) is the model's choice of log 30. -/
def Obligations.TwoWireWritePlacesAFrame : Prop :=
  (∀ (s u : State) (a : BitVec 7) (bytes : List Byte), exec (.busError .start) s = .next u →
    exec (.twoWireWrite a bytes) s = exec (.twoWireWrite a bytes) u)
  ∧ (∀ (s : State) (a : BitVec 7) (bytes : List Byte) (busy : Bool), s.twoWire = .notReady busy →
      exec (.twoWireWrite a bytes) s = .next { s with twoWire := .notReady true, sdaAck := false })
  ∧ ∀ (s : State) (a : BitVec 7) (c : ClientId),
    s.twoWire = .idle ∨ s.twoWire = .address ∨ s.twoWire = .ignoring →
    (c = 2 ∧ a.setWidth 8 = s.options.address2
      ∨ c = 3 ∧ a.setWidth 8 = s.options.address3 ∧ a.setWidth 8 ≠ s.options.address2) →
    let ignored : State := { s with twoWire := .ignoring, sdaAck := false }
    let misformed : State :=
      ignored.setClient c { s.client c with
        marks := { (s.client c).marks with frameErr := true } }
    exec (.twoWireWrite a []) s = .next { s with twoWire := .write c [] false, sdaAck := true }
    ∧ (∀ (kind sequence : Byte) (params : List Byte), params.length ≤ 64 →
      (s.client c).request = none →
      let body := [kind, sequence, byteOf params.length] ++ params
      let placed : Client := { s.client c with
        request := some { kind := kind, sequence := sequence, params := params } }
      exec (.twoWireWrite a (body ++ [crc8 body])) s
        = .next { s.setClient c placed with
                  twoWire := .write c (body ++ [crc8 body]) true, sdaAck := true }
      ∧ (∀ extra, extra ≠ [] →
          exec (.twoWireWrite a (body ++ crc8 body :: extra)) s
            = .next (ignored.setClient c placed))
      ∧ (∀ sum rest, sum ≠ crc8 body →
          exec (.twoWireWrite a (body ++ sum :: rest)) s = .next misformed)
      ∧ ∀ part rest, body = part ++ rest → part ≠ [] →
          exec (.twoWireWrite a part) s
            = .next { s with twoWire := .write c part false, sdaAck := true })
    ∧ (∀ (kind sequence n : Byte) (rest : List Byte), (s.client c).request = none →
        64 < n.toNat →
        exec (.twoWireWrite a (kind :: sequence :: n :: rest)) s = .next misformed)
    ∧ (∀ (kind : Byte) (rest : List Byte), (s.client c).request ≠ none →
        exec (.twoWireWrite a (kind :: rest)) s
          = .next (ignored.setClient c { s.client c with
              marks := { (s.client c).marks with discarded := true } }))
    ∧ ∀ (b : BitVec 7) (bytes : List Byte), b.setWidth 8 ≠ s.options.address2 →
        b.setWidth 8 ≠ s.options.address3 →
        exec (.twoWireWrite b bytes) s = .next ignored

/-- A two-wire read samples the status byte and takes the response frame at the address acknowledge, and
clears the marks it carried once eight bits have been clocked out; a START or STOP acts by the state it finds,
and releases SDA (R156, R158, R159). A START inside a frame acts before the read, and in NOT_READY nothing is
acknowledged (R159, R161). Where the state stands after the read (sdaAck) is the model's choice of log 30. -/
def Obligations.TwoWireReadsAndBusConditions : Prop :=
  (∀ (s u : State) (a : BitVec 7) (bits : Nat) (acked : Bool),
    exec (.busError .start) s = .next u →
    exec (.twoWireRead a bits acked) s = exec (.twoWireRead a bits acked) u)
  ∧ (∀ (s : State) (a : BitVec 7) (bits : Nat) (acked busy : Bool), s.twoWire = .notReady busy →
      exec (.twoWireRead a bits acked) s
        = .next { s with twoWire := .notReady true, sdaAck := false })
  ∧ (∀ (s : State) (a : BitVec 7) (bits : Nat) (acked : Bool),
      s.twoWire = .idle ∨ s.twoWire = .address ∨ s.twoWire = .ignoring →
      a.setWidth 8 ≠ s.options.address2 → a.setWidth 8 ≠ s.options.address3 →
      exec (.twoWireRead a bits acked) s = .next { s with twoWire := .ignoring, sdaAck := false })
  ∧ (∀ (s : State) (a : BitVec 7) (c : ClientId) (bits : Nat) (acked : Bool),
    s.twoWire = .idle ∨ s.twoWire = .address ∨ s.twoWire = .ignoring →
    (c = 2 ∧ a.setWidth 8 = s.options.address2
      ∨ c = 3 ∧ a.setWidth 8 = s.options.address3 ∧ a.setWidth 8 ≠ s.options.address2) →
    let reading : State :=
      { s with
        twoWire := .read c (readyStatusByte c s) (fetchFrame c s) bits
          (decide (8 ≤ bits) && !acked)
        sdaAck := decide (bits = 0) }
    (bits < 8 → exec (.twoWireRead a bits acked) s = .next reading)
    ∧ (8 ≤ bits →
        exec (.twoWireRead a bits acked) s
          = .next (reading.setClient c { s.client c with
              marks := { collided := false, frameErr := false, discarded := false } })))
  ∧ ∀ (s : State) (condition : BusCondition),
      let port : TwoWirePort := if condition = .start then .address else .idle
      (∀ busy, s.twoWire = .notReady busy →
        exec (.busError condition) s
          = .next { s with twoWire := .notReady (decide (condition = .start)), sdaAck := false })
      ∧ (s.twoWire = .idle ∨ s.twoWire = .address ∨ s.twoWire = .ignoring →
        exec (.busError condition) s = .next { s with twoWire := port, sdaAck := false })
      ∧ (∀ c status frame bits ended, s.twoWire = .read c status frame bits ended →
          exec (.busError condition) s = .next { s with twoWire := port, sdaAck := false })
      ∧ (∀ c bytes placed, s.twoWire = .write c bytes placed →
          (placed = true ∨ bytes = [] →
            exec (.busError condition) s = .next { s with twoWire := port, sdaAck := false })
          ∧ (placed = false → bytes ≠ [] →
            exec (.busError condition) s
              = .next { s.setClient c { s.client c with
                          marks := { (s.client c).marks with frameErr := true } } with
                        twoWire := port, sdaAck := false }))

/-- What the ports put on their outputs. SDO is driven in a transaction of the port in ACTIVE, and in NOT_READY
while a select is active without a collision; there the first byte is 02h and each other FFh; in IDLE, in VOID
and after a collision it is not driven; bytes go most significant bit first, the first bit of the status byte
from the select on and the next after each falling edge (R149, R150, R155, R161). In a two-wire read the status
byte, the frame and then FFh are sent, up to the byte that the master did not acknowledge; SDA is held low for
an acknowledge and for a 0 bit sent next, and is otherwise undriven, after a START or STOP at once (R156,
R158). That an acknowledge stays on SDA until then is the model's choice of log 30. -/
def Obligations.PortsDriveTheirOutputs : Prop :=
  (∀ (s : State) (t : FourWireTransaction), s.fourWire = .active t →
    s.sdoDriven = true ∧ ∀ k, s.sdoByte k = some (t.outByte k))
  ∧ (∀ s : State, s.fourWire = .notReady false →
      (s.selA = true ∨ s.selB = true →
        s.sdoDriven = true ∧ s.sdoByte 0 = some 0x02 ∧ ∀ k, s.sdoByte (k + 1) = some 0xFF)
      ∧ (s.selA = false → s.selB = false → s.sdoDriven = false ∧ ∀ n, s.sdoBit n = none))
  ∧ (∀ s : State, s.fourWire = .notReady true ∨ s.fourWire = .idle ∨ s.fourWire = .void →
      s.sdoDriven = false ∧ ∀ n, s.sdoBit n = none)
  ∧ (∀ (s : State) (n : Nat) (b : Byte), s.sdoByte (n / 8) = some b →
      s.sdoBit n = some (b.getLsbD (7 - n % 8)))
  ∧ (∀ (s : State) (c : ClientId) (status : Byte) (frame : List Byte) (bits : Nat) (ended : Bool),
      s.twoWire = .read c status frame bits ended →
      (∀ k, ended = true → bits / 8 ≤ k → s.sdaByte k = none)
      ∧ (∀ k, ended = false ∨ k < bits / 8 →
          (k = 0 → s.sdaByte k = some status)
          ∧ (∀ h : k - 1 < frame.length, k ≠ 0 → s.sdaByte k = some frame[k - 1])
          ∧ (frame.length < k → s.sdaByte k = some 0xFF))
      ∧ (∀ n b, s.sdaByte (n / 8) = some b → s.sdaBit n = some (b.getLsbD (7 - n % 8)))
      ∧ (s.sdaLow = true ↔ s.sdaAck = true ∨ s.sdaBit bits = some false))
  ∧ (∀ s : State, (∀ c status frame bits ended, s.twoWire ≠ .read c status frame bits ended) →
      s.sdaLow = s.sdaAck ∧ ∀ k, s.sdaByte k = none)
  ∧ ∀ (s t : State) (condition : BusCondition), exec (.busError condition) s = .next t →
      t.sdaLow = false

/-- The two checksums: the check values of R180, and the example frame of 12.2. -/
def Obligations.ChecksumsGiveTheCheckValues : Prop :=
  crc8 [0x31, 0x32, 0x33, 0x34, 0x35, 0x36, 0x37, 0x38, 0x39] = 0xF4
  ∧ crc16 [0x31, 0x32, 0x33, 0x34, 0x35, 0x36, 0x37, 0x38, 0x39] = 0x29B1
  ∧ crc8 [0x12, 0x05, 0x00] = 0x35

/-! ## Encoding -/

/-- Every entry in its ranges is read back from its descriptor with every field as it was, and bytes that are
read as an entry are the descriptor of an entry in its ranges (R56, R66, R179; 12.2); every option image with
fields in range is read back from its 28 bytes, and bytes that are read as an image are those of one with
fields in range (R171; 12.4). -/
def Obligations.DescriptorsAndImagesReadBack : Prop :=
  (∀ b : Booking, BookingInRange b → parseBooking (bookingBytes b) = some b)
  ∧ (∀ (bytes : List Byte) (b : Booking), parseBooking bytes = some b →
      BookingInRange b ∧ bytes = bookingBytes b)
  ∧ (∀ o : Options, FieldsInRange o → parseImage (imageBytes o) = some o)
  ∧ ∀ (bytes : List Byte) (o : Options), parseImage bytes = some o →
      FieldsInRange o ∧ bytes = imageBytes o

/-! ## Invariants -/

/-- Every invariant below holds in the state after reset. -/
def Obligations.InvariantsHoldAtReset : Prop :=
  Owned State.reset ∧ QueuesBounded State.reset ∧ EntriesNamed State.reset
    ∧ LinesRest State.reset ∧ PendingIsHeld State.reset ∧ DeadlinesAhead State.reset
    ∧ EngineInTime State.reset ∧ StrictNeedsNominal State.reset ∧ SharesKept State.reset
    ∧ DuesAhead State.reset ∧ TargetNotGood State.reset

/-- Every step keeps what a client holds tied to its OPEN session, and lines, wait lists and entries in
agreement (R18, R36, R54, R103, R121). -/
def Obligations.EveryStepKeepsOwnership : Prop :=
  ∀ s t : State, Owned s → step s = .next t → Owned t

/-- Every step keeps the bounds of the notice queues and of the capture queues (R107, R108, R124,
R125). -/
def Obligations.EveryStepKeepsTheQueuesBounded : Prop :=
  ∀ s t : State, QueuesBounded s → step s = .next t → QueuesBounded t

/-- Every step keeps each entry's handle that of its slot and use count, and its fields in range (R55,
R57). -/
def Obligations.EveryStepKeepsTheEntriesNamed : Prop :=
  ∀ s t : State, EntriesNamed s → step s = .next t → EntriesNamed t

/-- Every step keeps FREE lines at their idle levels and, in a supply hold, HELD lines at their park
levels without a pulse (R35, R53). -/
def Obligations.EveryStepKeepsTheLinesAtRest : Prop :=
  ∀ s t : State, Owned s → LinesRest s → step s = .next t → LinesRest t

/-- Every step keeps a PENDING slot that of the request in the engine, so that at most one is PENDING
(R141), and keeps that request within 25 ticks of its take (R136); that it completes by itself at 25
ticks is the model's choice of log 10; a client that the free engine has chosen keeps its frame (R135, log 25). -/
def Obligations.EveryStepKeepsTheEngineInOrder : Prop :=
  ∀ s t : State, step s = .next t →
    (PendingIsHeld s → PendingIsHeld t) ∧ (EngineInTime s → EngineInTime t)

/-- Every step keeps each OPEN client's deadline ahead of the run count by at most its period: no step
passes a deadline without its expiry (R115, R116); that an event that is due is taken before the next
tick is the model's choice of log 2. -/
def Obligations.EveryStepKeepsDeadlinesAhead : Prop :=
  ∀ s t : State, DeadlinesAhead s → step s = .next t → DeadlinesAhead t

/-- Every step keeps strict entries out of the calendar while the quality is DEGRADED (R76), each client's
entry count within its share (R58), and the record of the copy that a store is writing not good (R173, R174). -/
def Obligations.EveryStepKeepsStrictAndShares : Prop :=
  ∀ s t : State, step s = .next t →
    (StrictNeedsNominal s → StrictNeedsNominal t) ∧ (SharesKept s → SharesKept t)
    ∧ (TargetNotGood s → TargetNotGood t)

/-- Outside a supply hold every step of the running device keeps each due of the calendar ahead of the
timebase count, by at most 2^40 ticks (R59, R78); that an occurrence that is due is taken before the next tick
is the model's choice of log 2. -/
def Obligations.EveryStepKeepsDuesAhead : Prop :=
  ∀ s t : State, EntriesNamed s → DuesAhead s → s.phase = .running → s.supplyState = .normal →
    step s = .next t → t.supplyState = .normal → DuesAhead t
end

