-- ==== Sys2Proof/Laws/State.lean ====
section
/-!
SUPPORT. What each update of the state leaves as it was: one lemma for each field and each update, all true
by rfl.
-/

namespace Sys2Proof.Machine

/-! ### setClient -/

@[simp] theorem State.setClient_timebase (s : State) (c : ClientId) (r : Client) :
    (s.setClient c r).timebase = s.timebase := rfl
@[simp] theorem State.setClient_run (s : State) (c : ClientId) (r : Client) :
    (s.setClient c r).run = s.run := rfl
@[simp] theorem State.setClient_timeState (s : State) (c : ClientId) (r : Client) :
    (s.setClient c r).timeState = s.timeState := rfl
@[simp] theorem State.setClient_divider (s : State) (c : ClientId) (r : Client) :
    (s.setClient c r).divider = s.divider := rfl
@[simp] theorem State.setClient_clock (s : State) (c : ClientId) (r : Client) :
    (s.setClient c r).clock = s.clock := rfl
@[simp] theorem State.setClient_restartProgress (s : State) (c : ClientId) (r : Client) :
    (s.setClient c r).restartProgress = s.restartProgress := rfl
@[simp] theorem State.setClient_startWindow (s : State) (c : ClientId) (r : Client) :
    (s.setClient c r).startWindow = s.startWindow := rfl
@[simp] theorem State.setClient_missingCycles (s : State) (c : ClientId) (r : Client) :
    (s.setClient c r).missingCycles = s.missingCycles := rfl
@[simp] theorem State.setClient_proving (s : State) (c : ClientId) (r : Client) :
    (s.setClient c r).proving = s.proving := rfl
@[simp] theorem State.setClient_authority (s : State) (c : ClientId) (r : Client) :
    (s.setClient c r).authority = s.authority := rfl
@[simp] theorem State.setClient_armed (s : State) (c : ClientId) (r : Client) :
    (s.setClient c r).armed = s.armed := rfl
@[simp] theorem State.setClient_sync (s : State) (c : ClientId) (r : Client) :
    (s.setClient c r).sync = s.sync := rfl
@[simp] theorem State.setClient_inputs (s : State) (c : ClientId) (r : Client) :
    (s.setClient c r).inputs = s.inputs := rfl
@[simp] theorem State.setClient_sampled (s : State) (c : ClientId) (r : Client) :
    (s.setClient c r).sampled = s.sampled := rfl
@[simp] theorem State.setClient_rawInputs (s : State) (c : ClientId) (r : Client) :
    (s.setClient c r).rawInputs = s.rawInputs := rfl
@[simp] theorem State.setClient_rawSync (s : State) (c : ClientId) (r : Client) :
    (s.setClient c r).rawSync = s.rawSync := rfl
@[simp] theorem State.setClient_lines (s : State) (c : ClientId) (r : Client) :
    (s.setClient c r).lines = s.lines := rfl
@[simp] theorem State.setClient_slots (s : State) (c : ClientId) (r : Client) :
    (s.setClient c r).slots = s.slots := rfl
@[simp] theorem State.setClient_useCounts (s : State) (c : ClientId) (r : Client) :
    (s.setClient c r).useCounts = s.useCounts := rfl
@[simp] theorem State.setClient_engine (s : State) (c : ClientId) (r : Client) :
    (s.setClient c r).engine = s.engine := rfl
@[simp] theorem State.setClient_pointer (s : State) (c : ClientId) (r : Client) :
    (s.setClient c r).pointer = s.pointer := rfl
@[simp] theorem State.setClient_choice (s : State) (c : ClientId) (r : Client) :
    (s.setClient c r).choice = s.choice := rfl
@[simp] theorem State.setClient_fourWire (s : State) (c : ClientId) (r : Client) :
    (s.setClient c r).fourWire = s.fourWire := rfl
@[simp] theorem State.setClient_selA (s : State) (c : ClientId) (r : Client) :
    (s.setClient c r).selA = s.selA := rfl
@[simp] theorem State.setClient_selB (s : State) (c : ClientId) (r : Client) :
    (s.setClient c r).selB = s.selB := rfl
@[simp] theorem State.setClient_twoWire (s : State) (c : ClientId) (r : Client) :
    (s.setClient c r).twoWire = s.twoWire := rfl
@[simp] theorem State.setClient_sdaAck (s : State) (c : ClientId) (r : Client) :
    (s.setClient c r).sdaAck = s.sdaAck := rfl
@[simp] theorem State.setClient_supplyUv (s : State) (c : ClientId) (r : Client) :
    (s.setClient c r).supplyUv = s.supplyUv := rfl
@[simp] theorem State.setClient_supplyState (s : State) (c : ClientId) (r : Client) :
    (s.setClient c r).supplyState = s.supplyState := rfl
@[simp] theorem State.setClient_holdFilter (s : State) (c : ClientId) (r : Client) :
    (s.setClient c r).holdFilter = s.holdFilter := rfl
@[simp] theorem State.setClient_powerUpFlag (s : State) (c : ClientId) (r : Client) :
    (s.setClient c r).powerUpFlag = s.powerUpFlag := rfl
@[simp] theorem State.setClient_collapseLatch (s : State) (c : ClientId) (r : Client) :
    (s.setClient c r).collapseLatch = s.collapseLatch := rfl
@[simp] theorem State.setClient_resetn (s : State) (c : ClientId) (r : Client) :
    (s.setClient c r).resetn = s.resetn := rfl
@[simp] theorem State.setClient_phase (s : State) (c : ClientId) (r : Client) :
    (s.setClient c r).phase = s.phase := rfl
@[simp] theorem State.setClient_lastReset (s : State) (c : ClientId) (r : Client) :
    (s.setClient c r).lastReset = s.lastReset := rfl
@[simp] theorem State.setClient_options (s : State) (c : ClientId) (r : Client) :
    (s.setClient c r).options = s.options := rfl
@[simp] theorem State.setClient_optionStatus (s : State) (c : ClientId) (r : Client) :
    (s.setClient c r).optionStatus = s.optionStatus := rfl
@[simp] theorem State.setClient_copyA (s : State) (c : ClientId) (r : Client) :
    (s.setClient c r).copyA = s.copyA := rfl
@[simp] theorem State.setClient_copyB (s : State) (c : ClientId) (r : Client) :
    (s.setClient c r).copyB = s.copyB := rfl
@[simp] theorem State.setClient_recordA (s : State) (c : ClientId) (r : Client) :
    (s.setClient c r).recordA = s.recordA := rfl
@[simp] theorem State.setClient_recordB (s : State) (c : ClientId) (r : Client) :
    (s.setClient c r).recordB = s.recordB := rfl
@[simp] theorem State.setClient_store (s : State) (c : ClientId) (r : Client) :
    (s.setClient c r).store = s.store := rfl
@[simp] theorem State.setClient_freeCount (s : State) (c : ClientId) (r : Client) :
    (s.setClient c r).freeCount = s.freeCount := rfl
@[simp] theorem State.setClient_pending (s : State) (c : ClientId) (r : Client) :
    (s.setClient c r).pending = s.pending := rfl

/-! ### modifyClient -/

@[simp] theorem State.modifyClient_timebase (s : State) (c : ClientId) (f : Client → Client) :
    (s.modifyClient c f).timebase = s.timebase := rfl
@[simp] theorem State.modifyClient_run (s : State) (c : ClientId) (f : Client → Client) :
    (s.modifyClient c f).run = s.run := rfl
@[simp] theorem State.modifyClient_timeState (s : State) (c : ClientId) (f : Client → Client) :
    (s.modifyClient c f).timeState = s.timeState := rfl
@[simp] theorem State.modifyClient_divider (s : State) (c : ClientId) (f : Client → Client) :
    (s.modifyClient c f).divider = s.divider := rfl
@[simp] theorem State.modifyClient_clock (s : State) (c : ClientId) (f : Client → Client) :
    (s.modifyClient c f).clock = s.clock := rfl
@[simp] theorem State.modifyClient_restartProgress (s : State) (c : ClientId) (f : Client → Client) :
    (s.modifyClient c f).restartProgress = s.restartProgress := rfl
@[simp] theorem State.modifyClient_startWindow (s : State) (c : ClientId) (f : Client → Client) :
    (s.modifyClient c f).startWindow = s.startWindow := rfl
@[simp] theorem State.modifyClient_missingCycles (s : State) (c : ClientId) (f : Client → Client) :
    (s.modifyClient c f).missingCycles = s.missingCycles := rfl
@[simp] theorem State.modifyClient_proving (s : State) (c : ClientId) (f : Client → Client) :
    (s.modifyClient c f).proving = s.proving := rfl
@[simp] theorem State.modifyClient_authority (s : State) (c : ClientId) (f : Client → Client) :
    (s.modifyClient c f).authority = s.authority := rfl
@[simp] theorem State.modifyClient_armed (s : State) (c : ClientId) (f : Client → Client) :
    (s.modifyClient c f).armed = s.armed := rfl
@[simp] theorem State.modifyClient_sync (s : State) (c : ClientId) (f : Client → Client) :
    (s.modifyClient c f).sync = s.sync := rfl
@[simp] theorem State.modifyClient_inputs (s : State) (c : ClientId) (f : Client → Client) :
    (s.modifyClient c f).inputs = s.inputs := rfl
@[simp] theorem State.modifyClient_sampled (s : State) (c : ClientId) (f : Client → Client) :
    (s.modifyClient c f).sampled = s.sampled := rfl
@[simp] theorem State.modifyClient_rawInputs (s : State) (c : ClientId) (f : Client → Client) :
    (s.modifyClient c f).rawInputs = s.rawInputs := rfl
@[simp] theorem State.modifyClient_rawSync (s : State) (c : ClientId) (f : Client → Client) :
    (s.modifyClient c f).rawSync = s.rawSync := rfl
@[simp] theorem State.modifyClient_lines (s : State) (c : ClientId) (f : Client → Client) :
    (s.modifyClient c f).lines = s.lines := rfl
@[simp] theorem State.modifyClient_slots (s : State) (c : ClientId) (f : Client → Client) :
    (s.modifyClient c f).slots = s.slots := rfl
@[simp] theorem State.modifyClient_useCounts (s : State) (c : ClientId) (f : Client → Client) :
    (s.modifyClient c f).useCounts = s.useCounts := rfl
@[simp] theorem State.modifyClient_engine (s : State) (c : ClientId) (f : Client → Client) :
    (s.modifyClient c f).engine = s.engine := rfl
@[simp] theorem State.modifyClient_pointer (s : State) (c : ClientId) (f : Client → Client) :
    (s.modifyClient c f).pointer = s.pointer := rfl
@[simp] theorem State.modifyClient_choice (s : State) (c : ClientId) (f : Client → Client) :
    (s.modifyClient c f).choice = s.choice := rfl
@[simp] theorem State.modifyClient_fourWire (s : State) (c : ClientId) (f : Client → Client) :
    (s.modifyClient c f).fourWire = s.fourWire := rfl
@[simp] theorem State.modifyClient_selA (s : State) (c : ClientId) (f : Client → Client) :
    (s.modifyClient c f).selA = s.selA := rfl
@[simp] theorem State.modifyClient_selB (s : State) (c : ClientId) (f : Client → Client) :
    (s.modifyClient c f).selB = s.selB := rfl
@[simp] theorem State.modifyClient_twoWire (s : State) (c : ClientId) (f : Client → Client) :
    (s.modifyClient c f).twoWire = s.twoWire := rfl
@[simp] theorem State.modifyClient_sdaAck (s : State) (c : ClientId) (f : Client → Client) :
    (s.modifyClient c f).sdaAck = s.sdaAck := rfl
@[simp] theorem State.modifyClient_supplyUv (s : State) (c : ClientId) (f : Client → Client) :
    (s.modifyClient c f).supplyUv = s.supplyUv := rfl
@[simp] theorem State.modifyClient_supplyState (s : State) (c : ClientId) (f : Client → Client) :
    (s.modifyClient c f).supplyState = s.supplyState := rfl
@[simp] theorem State.modifyClient_holdFilter (s : State) (c : ClientId) (f : Client → Client) :
    (s.modifyClient c f).holdFilter = s.holdFilter := rfl
@[simp] theorem State.modifyClient_powerUpFlag (s : State) (c : ClientId) (f : Client → Client) :
    (s.modifyClient c f).powerUpFlag = s.powerUpFlag := rfl
@[simp] theorem State.modifyClient_collapseLatch (s : State) (c : ClientId) (f : Client → Client) :
    (s.modifyClient c f).collapseLatch = s.collapseLatch := rfl
@[simp] theorem State.modifyClient_resetn (s : State) (c : ClientId) (f : Client → Client) :
    (s.modifyClient c f).resetn = s.resetn := rfl
@[simp] theorem State.modifyClient_phase (s : State) (c : ClientId) (f : Client → Client) :
    (s.modifyClient c f).phase = s.phase := rfl
@[simp] theorem State.modifyClient_lastReset (s : State) (c : ClientId) (f : Client → Client) :
    (s.modifyClient c f).lastReset = s.lastReset := rfl
@[simp] theorem State.modifyClient_options (s : State) (c : ClientId) (f : Client → Client) :
    (s.modifyClient c f).options = s.options := rfl
@[simp] theorem State.modifyClient_optionStatus (s : State) (c : ClientId) (f : Client → Client) :
    (s.modifyClient c f).optionStatus = s.optionStatus := rfl
@[simp] theorem State.modifyClient_copyA (s : State) (c : ClientId) (f : Client → Client) :
    (s.modifyClient c f).copyA = s.copyA := rfl
@[simp] theorem State.modifyClient_copyB (s : State) (c : ClientId) (f : Client → Client) :
    (s.modifyClient c f).copyB = s.copyB := rfl
@[simp] theorem State.modifyClient_recordA (s : State) (c : ClientId) (f : Client → Client) :
    (s.modifyClient c f).recordA = s.recordA := rfl
@[simp] theorem State.modifyClient_recordB (s : State) (c : ClientId) (f : Client → Client) :
    (s.modifyClient c f).recordB = s.recordB := rfl
@[simp] theorem State.modifyClient_store (s : State) (c : ClientId) (f : Client → Client) :
    (s.modifyClient c f).store = s.store := rfl
@[simp] theorem State.modifyClient_freeCount (s : State) (c : ClientId) (f : Client → Client) :
    (s.modifyClient c f).freeCount = s.freeCount := rfl
@[simp] theorem State.modifyClient_pending (s : State) (c : ClientId) (f : Client → Client) :
    (s.modifyClient c f).pending = s.pending := rfl

/-! ### setLine -/

@[simp] theorem State.setLine_timebase (s : State) (l : LineId) (r : Line) :
    (s.setLine l r).timebase = s.timebase := rfl
@[simp] theorem State.setLine_run (s : State) (l : LineId) (r : Line) :
    (s.setLine l r).run = s.run := rfl
@[simp] theorem State.setLine_timeState (s : State) (l : LineId) (r : Line) :
    (s.setLine l r).timeState = s.timeState := rfl
@[simp] theorem State.setLine_divider (s : State) (l : LineId) (r : Line) :
    (s.setLine l r).divider = s.divider := rfl
@[simp] theorem State.setLine_clock (s : State) (l : LineId) (r : Line) :
    (s.setLine l r).clock = s.clock := rfl
@[simp] theorem State.setLine_restartProgress (s : State) (l : LineId) (r : Line) :
    (s.setLine l r).restartProgress = s.restartProgress := rfl
@[simp] theorem State.setLine_startWindow (s : State) (l : LineId) (r : Line) :
    (s.setLine l r).startWindow = s.startWindow := rfl
@[simp] theorem State.setLine_missingCycles (s : State) (l : LineId) (r : Line) :
    (s.setLine l r).missingCycles = s.missingCycles := rfl
@[simp] theorem State.setLine_proving (s : State) (l : LineId) (r : Line) :
    (s.setLine l r).proving = s.proving := rfl
@[simp] theorem State.setLine_authority (s : State) (l : LineId) (r : Line) :
    (s.setLine l r).authority = s.authority := rfl
@[simp] theorem State.setLine_armed (s : State) (l : LineId) (r : Line) :
    (s.setLine l r).armed = s.armed := rfl
@[simp] theorem State.setLine_sync (s : State) (l : LineId) (r : Line) :
    (s.setLine l r).sync = s.sync := rfl
@[simp] theorem State.setLine_inputs (s : State) (l : LineId) (r : Line) :
    (s.setLine l r).inputs = s.inputs := rfl
@[simp] theorem State.setLine_sampled (s : State) (l : LineId) (r : Line) :
    (s.setLine l r).sampled = s.sampled := rfl
@[simp] theorem State.setLine_rawInputs (s : State) (l : LineId) (r : Line) :
    (s.setLine l r).rawInputs = s.rawInputs := rfl
@[simp] theorem State.setLine_rawSync (s : State) (l : LineId) (r : Line) :
    (s.setLine l r).rawSync = s.rawSync := rfl
@[simp] theorem State.setLine_slots (s : State) (l : LineId) (r : Line) :
    (s.setLine l r).slots = s.slots := rfl
@[simp] theorem State.setLine_useCounts (s : State) (l : LineId) (r : Line) :
    (s.setLine l r).useCounts = s.useCounts := rfl
@[simp] theorem State.setLine_clients (s : State) (l : LineId) (r : Line) :
    (s.setLine l r).clients = s.clients := rfl
@[simp] theorem State.setLine_engine (s : State) (l : LineId) (r : Line) :
    (s.setLine l r).engine = s.engine := rfl
@[simp] theorem State.setLine_pointer (s : State) (l : LineId) (r : Line) :
    (s.setLine l r).pointer = s.pointer := rfl
@[simp] theorem State.setLine_choice (s : State) (l : LineId) (r : Line) :
    (s.setLine l r).choice = s.choice := rfl
@[simp] theorem State.setLine_fourWire (s : State) (l : LineId) (r : Line) :
    (s.setLine l r).fourWire = s.fourWire := rfl
@[simp] theorem State.setLine_selA (s : State) (l : LineId) (r : Line) :
    (s.setLine l r).selA = s.selA := rfl
@[simp] theorem State.setLine_selB (s : State) (l : LineId) (r : Line) :
    (s.setLine l r).selB = s.selB := rfl
@[simp] theorem State.setLine_twoWire (s : State) (l : LineId) (r : Line) :
    (s.setLine l r).twoWire = s.twoWire := rfl
@[simp] theorem State.setLine_sdaAck (s : State) (l : LineId) (r : Line) :
    (s.setLine l r).sdaAck = s.sdaAck := rfl
@[simp] theorem State.setLine_supplyUv (s : State) (l : LineId) (r : Line) :
    (s.setLine l r).supplyUv = s.supplyUv := rfl
@[simp] theorem State.setLine_supplyState (s : State) (l : LineId) (r : Line) :
    (s.setLine l r).supplyState = s.supplyState := rfl
@[simp] theorem State.setLine_holdFilter (s : State) (l : LineId) (r : Line) :
    (s.setLine l r).holdFilter = s.holdFilter := rfl
@[simp] theorem State.setLine_powerUpFlag (s : State) (l : LineId) (r : Line) :
    (s.setLine l r).powerUpFlag = s.powerUpFlag := rfl
@[simp] theorem State.setLine_collapseLatch (s : State) (l : LineId) (r : Line) :
    (s.setLine l r).collapseLatch = s.collapseLatch := rfl
@[simp] theorem State.setLine_resetn (s : State) (l : LineId) (r : Line) :
    (s.setLine l r).resetn = s.resetn := rfl
@[simp] theorem State.setLine_phase (s : State) (l : LineId) (r : Line) :
    (s.setLine l r).phase = s.phase := rfl
@[simp] theorem State.setLine_lastReset (s : State) (l : LineId) (r : Line) :
    (s.setLine l r).lastReset = s.lastReset := rfl
@[simp] theorem State.setLine_options (s : State) (l : LineId) (r : Line) :
    (s.setLine l r).options = s.options := rfl
@[simp] theorem State.setLine_optionStatus (s : State) (l : LineId) (r : Line) :
    (s.setLine l r).optionStatus = s.optionStatus := rfl
@[simp] theorem State.setLine_copyA (s : State) (l : LineId) (r : Line) :
    (s.setLine l r).copyA = s.copyA := rfl
@[simp] theorem State.setLine_copyB (s : State) (l : LineId) (r : Line) :
    (s.setLine l r).copyB = s.copyB := rfl
@[simp] theorem State.setLine_recordA (s : State) (l : LineId) (r : Line) :
    (s.setLine l r).recordA = s.recordA := rfl
@[simp] theorem State.setLine_recordB (s : State) (l : LineId) (r : Line) :
    (s.setLine l r).recordB = s.recordB := rfl
@[simp] theorem State.setLine_store (s : State) (l : LineId) (r : Line) :
    (s.setLine l r).store = s.store := rfl
@[simp] theorem State.setLine_freeCount (s : State) (l : LineId) (r : Line) :
    (s.setLine l r).freeCount = s.freeCount := rfl
@[simp] theorem State.setLine_pending (s : State) (l : LineId) (r : Line) :
    (s.setLine l r).pending = s.pending := rfl

/-! ### setInput -/

@[simp] theorem State.setInput_timebase (s : State) (i : InputId) (r : Input) :
    (s.setInput i r).timebase = s.timebase := rfl
@[simp] theorem State.setInput_run (s : State) (i : InputId) (r : Input) :
    (s.setInput i r).run = s.run := rfl
@[simp] theorem State.setInput_timeState (s : State) (i : InputId) (r : Input) :
    (s.setInput i r).timeState = s.timeState := rfl
@[simp] theorem State.setInput_divider (s : State) (i : InputId) (r : Input) :
    (s.setInput i r).divider = s.divider := rfl
@[simp] theorem State.setInput_clock (s : State) (i : InputId) (r : Input) :
    (s.setInput i r).clock = s.clock := rfl
@[simp] theorem State.setInput_restartProgress (s : State) (i : InputId) (r : Input) :
    (s.setInput i r).restartProgress = s.restartProgress := rfl
@[simp] theorem State.setInput_startWindow (s : State) (i : InputId) (r : Input) :
    (s.setInput i r).startWindow = s.startWindow := rfl
@[simp] theorem State.setInput_missingCycles (s : State) (i : InputId) (r : Input) :
    (s.setInput i r).missingCycles = s.missingCycles := rfl
@[simp] theorem State.setInput_proving (s : State) (i : InputId) (r : Input) :
    (s.setInput i r).proving = s.proving := rfl
@[simp] theorem State.setInput_authority (s : State) (i : InputId) (r : Input) :
    (s.setInput i r).authority = s.authority := rfl
@[simp] theorem State.setInput_armed (s : State) (i : InputId) (r : Input) :
    (s.setInput i r).armed = s.armed := rfl
@[simp] theorem State.setInput_sync (s : State) (i : InputId) (r : Input) :
    (s.setInput i r).sync = s.sync := rfl
@[simp] theorem State.setInput_sampled (s : State) (i : InputId) (r : Input) :
    (s.setInput i r).sampled = s.sampled := rfl
@[simp] theorem State.setInput_rawInputs (s : State) (i : InputId) (r : Input) :
    (s.setInput i r).rawInputs = s.rawInputs := rfl
@[simp] theorem State.setInput_rawSync (s : State) (i : InputId) (r : Input) :
    (s.setInput i r).rawSync = s.rawSync := rfl
@[simp] theorem State.setInput_lines (s : State) (i : InputId) (r : Input) :
    (s.setInput i r).lines = s.lines := rfl
@[simp] theorem State.setInput_slots (s : State) (i : InputId) (r : Input) :
    (s.setInput i r).slots = s.slots := rfl
@[simp] theorem State.setInput_useCounts (s : State) (i : InputId) (r : Input) :
    (s.setInput i r).useCounts = s.useCounts := rfl
@[simp] theorem State.setInput_clients (s : State) (i : InputId) (r : Input) :
    (s.setInput i r).clients = s.clients := rfl
@[simp] theorem State.setInput_engine (s : State) (i : InputId) (r : Input) :
    (s.setInput i r).engine = s.engine := rfl
@[simp] theorem State.setInput_pointer (s : State) (i : InputId) (r : Input) :
    (s.setInput i r).pointer = s.pointer := rfl
@[simp] theorem State.setInput_choice (s : State) (i : InputId) (r : Input) :
    (s.setInput i r).choice = s.choice := rfl
@[simp] theorem State.setInput_fourWire (s : State) (i : InputId) (r : Input) :
    (s.setInput i r).fourWire = s.fourWire := rfl
@[simp] theorem State.setInput_selA (s : State) (i : InputId) (r : Input) :
    (s.setInput i r).selA = s.selA := rfl
@[simp] theorem State.setInput_selB (s : State) (i : InputId) (r : Input) :
    (s.setInput i r).selB = s.selB := rfl
@[simp] theorem State.setInput_twoWire (s : State) (i : InputId) (r : Input) :
    (s.setInput i r).twoWire = s.twoWire := rfl
@[simp] theorem State.setInput_sdaAck (s : State) (i : InputId) (r : Input) :
    (s.setInput i r).sdaAck = s.sdaAck := rfl
@[simp] theorem State.setInput_supplyUv (s : State) (i : InputId) (r : Input) :
    (s.setInput i r).supplyUv = s.supplyUv := rfl
@[simp] theorem State.setInput_supplyState (s : State) (i : InputId) (r : Input) :
    (s.setInput i r).supplyState = s.supplyState := rfl
@[simp] theorem State.setInput_holdFilter (s : State) (i : InputId) (r : Input) :
    (s.setInput i r).holdFilter = s.holdFilter := rfl
@[simp] theorem State.setInput_powerUpFlag (s : State) (i : InputId) (r : Input) :
    (s.setInput i r).powerUpFlag = s.powerUpFlag := rfl
@[simp] theorem State.setInput_collapseLatch (s : State) (i : InputId) (r : Input) :
    (s.setInput i r).collapseLatch = s.collapseLatch := rfl
@[simp] theorem State.setInput_resetn (s : State) (i : InputId) (r : Input) :
    (s.setInput i r).resetn = s.resetn := rfl
@[simp] theorem State.setInput_phase (s : State) (i : InputId) (r : Input) :
    (s.setInput i r).phase = s.phase := rfl
@[simp] theorem State.setInput_lastReset (s : State) (i : InputId) (r : Input) :
    (s.setInput i r).lastReset = s.lastReset := rfl
@[simp] theorem State.setInput_options (s : State) (i : InputId) (r : Input) :
    (s.setInput i r).options = s.options := rfl
@[simp] theorem State.setInput_optionStatus (s : State) (i : InputId) (r : Input) :
    (s.setInput i r).optionStatus = s.optionStatus := rfl
@[simp] theorem State.setInput_copyA (s : State) (i : InputId) (r : Input) :
    (s.setInput i r).copyA = s.copyA := rfl
@[simp] theorem State.setInput_copyB (s : State) (i : InputId) (r : Input) :
    (s.setInput i r).copyB = s.copyB := rfl
@[simp] theorem State.setInput_recordA (s : State) (i : InputId) (r : Input) :
    (s.setInput i r).recordA = s.recordA := rfl
@[simp] theorem State.setInput_recordB (s : State) (i : InputId) (r : Input) :
    (s.setInput i r).recordB = s.recordB := rfl
@[simp] theorem State.setInput_store (s : State) (i : InputId) (r : Input) :
    (s.setInput i r).store = s.store := rfl
@[simp] theorem State.setInput_freeCount (s : State) (i : InputId) (r : Input) :
    (s.setInput i r).freeCount = s.freeCount := rfl
@[simp] theorem State.setInput_pending (s : State) (i : InputId) (r : Input) :
    (s.setInput i r).pending = s.pending := rfl

/-! ### setSlot -/

@[simp] theorem State.setSlot_timebase (s : State) (k : SlotId) (e : Option Entry) :
    (s.setSlot k e).timebase = s.timebase := rfl
@[simp] theorem State.setSlot_run (s : State) (k : SlotId) (e : Option Entry) :
    (s.setSlot k e).run = s.run := rfl
@[simp] theorem State.setSlot_timeState (s : State) (k : SlotId) (e : Option Entry) :
    (s.setSlot k e).timeState = s.timeState := rfl
@[simp] theorem State.setSlot_divider (s : State) (k : SlotId) (e : Option Entry) :
    (s.setSlot k e).divider = s.divider := rfl
@[simp] theorem State.setSlot_clock (s : State) (k : SlotId) (e : Option Entry) :
    (s.setSlot k e).clock = s.clock := rfl
@[simp] theorem State.setSlot_restartProgress (s : State) (k : SlotId) (e : Option Entry) :
    (s.setSlot k e).restartProgress = s.restartProgress := rfl
@[simp] theorem State.setSlot_startWindow (s : State) (k : SlotId) (e : Option Entry) :
    (s.setSlot k e).startWindow = s.startWindow := rfl
@[simp] theorem State.setSlot_missingCycles (s : State) (k : SlotId) (e : Option Entry) :
    (s.setSlot k e).missingCycles = s.missingCycles := rfl
@[simp] theorem State.setSlot_proving (s : State) (k : SlotId) (e : Option Entry) :
    (s.setSlot k e).proving = s.proving := rfl
@[simp] theorem State.setSlot_authority (s : State) (k : SlotId) (e : Option Entry) :
    (s.setSlot k e).authority = s.authority := rfl
@[simp] theorem State.setSlot_armed (s : State) (k : SlotId) (e : Option Entry) :
    (s.setSlot k e).armed = s.armed := rfl
@[simp] theorem State.setSlot_sync (s : State) (k : SlotId) (e : Option Entry) :
    (s.setSlot k e).sync = s.sync := rfl
@[simp] theorem State.setSlot_inputs (s : State) (k : SlotId) (e : Option Entry) :
    (s.setSlot k e).inputs = s.inputs := rfl
@[simp] theorem State.setSlot_sampled (s : State) (k : SlotId) (e : Option Entry) :
    (s.setSlot k e).sampled = s.sampled := rfl
@[simp] theorem State.setSlot_rawInputs (s : State) (k : SlotId) (e : Option Entry) :
    (s.setSlot k e).rawInputs = s.rawInputs := rfl
@[simp] theorem State.setSlot_rawSync (s : State) (k : SlotId) (e : Option Entry) :
    (s.setSlot k e).rawSync = s.rawSync := rfl
@[simp] theorem State.setSlot_lines (s : State) (k : SlotId) (e : Option Entry) :
    (s.setSlot k e).lines = s.lines := rfl
@[simp] theorem State.setSlot_useCounts (s : State) (k : SlotId) (e : Option Entry) :
    (s.setSlot k e).useCounts = s.useCounts := rfl
@[simp] theorem State.setSlot_clients (s : State) (k : SlotId) (e : Option Entry) :
    (s.setSlot k e).clients = s.clients := rfl
@[simp] theorem State.setSlot_engine (s : State) (k : SlotId) (e : Option Entry) :
    (s.setSlot k e).engine = s.engine := rfl
@[simp] theorem State.setSlot_pointer (s : State) (k : SlotId) (e : Option Entry) :
    (s.setSlot k e).pointer = s.pointer := rfl
@[simp] theorem State.setSlot_choice (s : State) (k : SlotId) (e : Option Entry) :
    (s.setSlot k e).choice = s.choice := rfl
@[simp] theorem State.setSlot_fourWire (s : State) (k : SlotId) (e : Option Entry) :
    (s.setSlot k e).fourWire = s.fourWire := rfl
@[simp] theorem State.setSlot_selA (s : State) (k : SlotId) (e : Option Entry) :
    (s.setSlot k e).selA = s.selA := rfl
@[simp] theorem State.setSlot_selB (s : State) (k : SlotId) (e : Option Entry) :
    (s.setSlot k e).selB = s.selB := rfl
@[simp] theorem State.setSlot_twoWire (s : State) (k : SlotId) (e : Option Entry) :
    (s.setSlot k e).twoWire = s.twoWire := rfl
@[simp] theorem State.setSlot_sdaAck (s : State) (k : SlotId) (e : Option Entry) :
    (s.setSlot k e).sdaAck = s.sdaAck := rfl
@[simp] theorem State.setSlot_supplyUv (s : State) (k : SlotId) (e : Option Entry) :
    (s.setSlot k e).supplyUv = s.supplyUv := rfl
@[simp] theorem State.setSlot_supplyState (s : State) (k : SlotId) (e : Option Entry) :
    (s.setSlot k e).supplyState = s.supplyState := rfl
@[simp] theorem State.setSlot_holdFilter (s : State) (k : SlotId) (e : Option Entry) :
    (s.setSlot k e).holdFilter = s.holdFilter := rfl
@[simp] theorem State.setSlot_powerUpFlag (s : State) (k : SlotId) (e : Option Entry) :
    (s.setSlot k e).powerUpFlag = s.powerUpFlag := rfl
@[simp] theorem State.setSlot_collapseLatch (s : State) (k : SlotId) (e : Option Entry) :
    (s.setSlot k e).collapseLatch = s.collapseLatch := rfl
@[simp] theorem State.setSlot_resetn (s : State) (k : SlotId) (e : Option Entry) :
    (s.setSlot k e).resetn = s.resetn := rfl
@[simp] theorem State.setSlot_phase (s : State) (k : SlotId) (e : Option Entry) :
    (s.setSlot k e).phase = s.phase := rfl
@[simp] theorem State.setSlot_lastReset (s : State) (k : SlotId) (e : Option Entry) :
    (s.setSlot k e).lastReset = s.lastReset := rfl
@[simp] theorem State.setSlot_options (s : State) (k : SlotId) (e : Option Entry) :
    (s.setSlot k e).options = s.options := rfl
@[simp] theorem State.setSlot_optionStatus (s : State) (k : SlotId) (e : Option Entry) :
    (s.setSlot k e).optionStatus = s.optionStatus := rfl
@[simp] theorem State.setSlot_copyA (s : State) (k : SlotId) (e : Option Entry) :
    (s.setSlot k e).copyA = s.copyA := rfl
@[simp] theorem State.setSlot_copyB (s : State) (k : SlotId) (e : Option Entry) :
    (s.setSlot k e).copyB = s.copyB := rfl
@[simp] theorem State.setSlot_recordA (s : State) (k : SlotId) (e : Option Entry) :
    (s.setSlot k e).recordA = s.recordA := rfl
@[simp] theorem State.setSlot_recordB (s : State) (k : SlotId) (e : Option Entry) :
    (s.setSlot k e).recordB = s.recordB := rfl
@[simp] theorem State.setSlot_store (s : State) (k : SlotId) (e : Option Entry) :
    (s.setSlot k e).store = s.store := rfl
@[simp] theorem State.setSlot_freeCount (s : State) (k : SlotId) (e : Option Entry) :
    (s.setSlot k e).freeCount = s.freeCount := rfl
@[simp] theorem State.setSlot_pending (s : State) (k : SlotId) (e : Option Entry) :
    (s.setSlot k e).pending = s.pending := rfl

/-! ### removeEntries -/

@[simp] theorem State.removeEntries_timebase (s : State) (pick : Entry → Bool) :
    (removeEntries pick s).timebase = s.timebase := rfl
@[simp] theorem State.removeEntries_run (s : State) (pick : Entry → Bool) :
    (removeEntries pick s).run = s.run := rfl
@[simp] theorem State.removeEntries_timeState (s : State) (pick : Entry → Bool) :
    (removeEntries pick s).timeState = s.timeState := rfl
@[simp] theorem State.removeEntries_divider (s : State) (pick : Entry → Bool) :
    (removeEntries pick s).divider = s.divider := rfl
@[simp] theorem State.removeEntries_clock (s : State) (pick : Entry → Bool) :
    (removeEntries pick s).clock = s.clock := rfl
@[simp] theorem State.removeEntries_restartProgress (s : State) (pick : Entry → Bool) :
    (removeEntries pick s).restartProgress = s.restartProgress := rfl
@[simp] theorem State.removeEntries_startWindow (s : State) (pick : Entry → Bool) :
    (removeEntries pick s).startWindow = s.startWindow := rfl
@[simp] theorem State.removeEntries_missingCycles (s : State) (pick : Entry → Bool) :
    (removeEntries pick s).missingCycles = s.missingCycles := rfl
@[simp] theorem State.removeEntries_proving (s : State) (pick : Entry → Bool) :
    (removeEntries pick s).proving = s.proving := rfl
@[simp] theorem State.removeEntries_authority (s : State) (pick : Entry → Bool) :
    (removeEntries pick s).authority = s.authority := rfl
@[simp] theorem State.removeEntries_armed (s : State) (pick : Entry → Bool) :
    (removeEntries pick s).armed = s.armed := rfl
@[simp] theorem State.removeEntries_sync (s : State) (pick : Entry → Bool) :
    (removeEntries pick s).sync = s.sync := rfl
@[simp] theorem State.removeEntries_inputs (s : State) (pick : Entry → Bool) :
    (removeEntries pick s).inputs = s.inputs := rfl
@[simp] theorem State.removeEntries_sampled (s : State) (pick : Entry → Bool) :
    (removeEntries pick s).sampled = s.sampled := rfl
@[simp] theorem State.removeEntries_rawInputs (s : State) (pick : Entry → Bool) :
    (removeEntries pick s).rawInputs = s.rawInputs := rfl
@[simp] theorem State.removeEntries_rawSync (s : State) (pick : Entry → Bool) :
    (removeEntries pick s).rawSync = s.rawSync := rfl
@[simp] theorem State.removeEntries_lines (s : State) (pick : Entry → Bool) :
    (removeEntries pick s).lines = s.lines := rfl
@[simp] theorem State.removeEntries_useCounts (s : State) (pick : Entry → Bool) :
    (removeEntries pick s).useCounts = s.useCounts := rfl
@[simp] theorem State.removeEntries_clients (s : State) (pick : Entry → Bool) :
    (removeEntries pick s).clients = s.clients := rfl
@[simp] theorem State.removeEntries_engine (s : State) (pick : Entry → Bool) :
    (removeEntries pick s).engine = s.engine := rfl
@[simp] theorem State.removeEntries_pointer (s : State) (pick : Entry → Bool) :
    (removeEntries pick s).pointer = s.pointer := rfl
@[simp] theorem State.removeEntries_choice (s : State) (pick : Entry → Bool) :
    (removeEntries pick s).choice = s.choice := rfl
@[simp] theorem State.removeEntries_fourWire (s : State) (pick : Entry → Bool) :
    (removeEntries pick s).fourWire = s.fourWire := rfl
@[simp] theorem State.removeEntries_selA (s : State) (pick : Entry → Bool) :
    (removeEntries pick s).selA = s.selA := rfl
@[simp] theorem State.removeEntries_selB (s : State) (pick : Entry → Bool) :
    (removeEntries pick s).selB = s.selB := rfl
@[simp] theorem State.removeEntries_twoWire (s : State) (pick : Entry → Bool) :
    (removeEntries pick s).twoWire = s.twoWire := rfl
@[simp] theorem State.removeEntries_sdaAck (s : State) (pick : Entry → Bool) :
    (removeEntries pick s).sdaAck = s.sdaAck := rfl
@[simp] theorem State.removeEntries_supplyUv (s : State) (pick : Entry → Bool) :
    (removeEntries pick s).supplyUv = s.supplyUv := rfl
@[simp] theorem State.removeEntries_supplyState (s : State) (pick : Entry → Bool) :
    (removeEntries pick s).supplyState = s.supplyState := rfl
@[simp] theorem State.removeEntries_holdFilter (s : State) (pick : Entry → Bool) :
    (removeEntries pick s).holdFilter = s.holdFilter := rfl
@[simp] theorem State.removeEntries_powerUpFlag (s : State) (pick : Entry → Bool) :
    (removeEntries pick s).powerUpFlag = s.powerUpFlag := rfl
@[simp] theorem State.removeEntries_collapseLatch (s : State) (pick : Entry → Bool) :
    (removeEntries pick s).collapseLatch = s.collapseLatch := rfl
@[simp] theorem State.removeEntries_resetn (s : State) (pick : Entry → Bool) :
    (removeEntries pick s).resetn = s.resetn := rfl
@[simp] theorem State.removeEntries_phase (s : State) (pick : Entry → Bool) :
    (removeEntries pick s).phase = s.phase := rfl
@[simp] theorem State.removeEntries_lastReset (s : State) (pick : Entry → Bool) :
    (removeEntries pick s).lastReset = s.lastReset := rfl
@[simp] theorem State.removeEntries_options (s : State) (pick : Entry → Bool) :
    (removeEntries pick s).options = s.options := rfl
@[simp] theorem State.removeEntries_optionStatus (s : State) (pick : Entry → Bool) :
    (removeEntries pick s).optionStatus = s.optionStatus := rfl
@[simp] theorem State.removeEntries_copyA (s : State) (pick : Entry → Bool) :
    (removeEntries pick s).copyA = s.copyA := rfl
@[simp] theorem State.removeEntries_copyB (s : State) (pick : Entry → Bool) :
    (removeEntries pick s).copyB = s.copyB := rfl
@[simp] theorem State.removeEntries_recordA (s : State) (pick : Entry → Bool) :
    (removeEntries pick s).recordA = s.recordA := rfl
@[simp] theorem State.removeEntries_recordB (s : State) (pick : Entry → Bool) :
    (removeEntries pick s).recordB = s.recordB := rfl
@[simp] theorem State.removeEntries_store (s : State) (pick : Entry → Bool) :
    (removeEntries pick s).store = s.store := rfl
@[simp] theorem State.removeEntries_freeCount (s : State) (pick : Entry → Bool) :
    (removeEntries pick s).freeCount = s.freeCount := rfl
@[simp] theorem State.removeEntries_pending (s : State) (pick : Entry → Bool) :
    (removeEntries pick s).pending = s.pending := rfl

/-! ### useFree -/

@[simp] theorem State.useFree_timebase (s : State) (n : Nat) :
    (s.useFree n).timebase = s.timebase := rfl
@[simp] theorem State.useFree_run (s : State) (n : Nat) :
    (s.useFree n).run = s.run := rfl
@[simp] theorem State.useFree_timeState (s : State) (n : Nat) :
    (s.useFree n).timeState = s.timeState := rfl
@[simp] theorem State.useFree_divider (s : State) (n : Nat) :
    (s.useFree n).divider = s.divider := rfl
@[simp] theorem State.useFree_clock (s : State) (n : Nat) :
    (s.useFree n).clock = s.clock := rfl
@[simp] theorem State.useFree_restartProgress (s : State) (n : Nat) :
    (s.useFree n).restartProgress = s.restartProgress := rfl
@[simp] theorem State.useFree_startWindow (s : State) (n : Nat) :
    (s.useFree n).startWindow = s.startWindow := rfl
@[simp] theorem State.useFree_missingCycles (s : State) (n : Nat) :
    (s.useFree n).missingCycles = s.missingCycles := rfl
@[simp] theorem State.useFree_proving (s : State) (n : Nat) :
    (s.useFree n).proving = s.proving := rfl
@[simp] theorem State.useFree_authority (s : State) (n : Nat) :
    (s.useFree n).authority = s.authority := rfl
@[simp] theorem State.useFree_armed (s : State) (n : Nat) :
    (s.useFree n).armed = s.armed := rfl
@[simp] theorem State.useFree_sync (s : State) (n : Nat) :
    (s.useFree n).sync = s.sync := rfl
@[simp] theorem State.useFree_inputs (s : State) (n : Nat) :
    (s.useFree n).inputs = s.inputs := rfl
@[simp] theorem State.useFree_sampled (s : State) (n : Nat) :
    (s.useFree n).sampled = s.sampled := rfl
@[simp] theorem State.useFree_rawInputs (s : State) (n : Nat) :
    (s.useFree n).rawInputs = s.rawInputs := rfl
@[simp] theorem State.useFree_rawSync (s : State) (n : Nat) :
    (s.useFree n).rawSync = s.rawSync := rfl
@[simp] theorem State.useFree_lines (s : State) (n : Nat) :
    (s.useFree n).lines = s.lines := rfl
@[simp] theorem State.useFree_slots (s : State) (n : Nat) :
    (s.useFree n).slots = s.slots := rfl
@[simp] theorem State.useFree_useCounts (s : State) (n : Nat) :
    (s.useFree n).useCounts = s.useCounts := rfl
@[simp] theorem State.useFree_clients (s : State) (n : Nat) :
    (s.useFree n).clients = s.clients := rfl
@[simp] theorem State.useFree_engine (s : State) (n : Nat) :
    (s.useFree n).engine = s.engine := rfl
@[simp] theorem State.useFree_pointer (s : State) (n : Nat) :
    (s.useFree n).pointer = s.pointer := rfl
@[simp] theorem State.useFree_choice (s : State) (n : Nat) :
    (s.useFree n).choice = s.choice := rfl
@[simp] theorem State.useFree_fourWire (s : State) (n : Nat) :
    (s.useFree n).fourWire = s.fourWire := rfl
@[simp] theorem State.useFree_selA (s : State) (n : Nat) :
    (s.useFree n).selA = s.selA := rfl
@[simp] theorem State.useFree_selB (s : State) (n : Nat) :
    (s.useFree n).selB = s.selB := rfl
@[simp] theorem State.useFree_twoWire (s : State) (n : Nat) :
    (s.useFree n).twoWire = s.twoWire := rfl
@[simp] theorem State.useFree_sdaAck (s : State) (n : Nat) :
    (s.useFree n).sdaAck = s.sdaAck := rfl
@[simp] theorem State.useFree_supplyUv (s : State) (n : Nat) :
    (s.useFree n).supplyUv = s.supplyUv := rfl
@[simp] theorem State.useFree_supplyState (s : State) (n : Nat) :
    (s.useFree n).supplyState = s.supplyState := rfl
@[simp] theorem State.useFree_holdFilter (s : State) (n : Nat) :
    (s.useFree n).holdFilter = s.holdFilter := rfl
@[simp] theorem State.useFree_powerUpFlag (s : State) (n : Nat) :
    (s.useFree n).powerUpFlag = s.powerUpFlag := rfl
@[simp] theorem State.useFree_collapseLatch (s : State) (n : Nat) :
    (s.useFree n).collapseLatch = s.collapseLatch := rfl
@[simp] theorem State.useFree_resetn (s : State) (n : Nat) :
    (s.useFree n).resetn = s.resetn := rfl
@[simp] theorem State.useFree_phase (s : State) (n : Nat) :
    (s.useFree n).phase = s.phase := rfl
@[simp] theorem State.useFree_lastReset (s : State) (n : Nat) :
    (s.useFree n).lastReset = s.lastReset := rfl
@[simp] theorem State.useFree_options (s : State) (n : Nat) :
    (s.useFree n).options = s.options := rfl
@[simp] theorem State.useFree_optionStatus (s : State) (n : Nat) :
    (s.useFree n).optionStatus = s.optionStatus := rfl
@[simp] theorem State.useFree_copyA (s : State) (n : Nat) :
    (s.useFree n).copyA = s.copyA := rfl
@[simp] theorem State.useFree_copyB (s : State) (n : Nat) :
    (s.useFree n).copyB = s.copyB := rfl
@[simp] theorem State.useFree_recordA (s : State) (n : Nat) :
    (s.useFree n).recordA = s.recordA := rfl
@[simp] theorem State.useFree_recordB (s : State) (n : Nat) :
    (s.useFree n).recordB = s.recordB := rfl
@[simp] theorem State.useFree_store (s : State) (n : Nat) :
    (s.useFree n).store = s.store := rfl
@[simp] theorem State.useFree_pending (s : State) (n : Nat) :
    (s.useFree n).pending = s.pending := rfl

/-! ### replied -/

@[simp] theorem State.replied_timebase (s : State) (j : EngineJob) (st : Status) (r : List Byte) :
    (s.replied j st r).timebase = s.timebase := rfl
@[simp] theorem State.replied_run (s : State) (j : EngineJob) (st : Status) (r : List Byte) :
    (s.replied j st r).run = s.run := rfl
@[simp] theorem State.replied_timeState (s : State) (j : EngineJob) (st : Status) (r : List Byte) :
    (s.replied j st r).timeState = s.timeState := rfl
@[simp] theorem State.replied_divider (s : State) (j : EngineJob) (st : Status) (r : List Byte) :
    (s.replied j st r).divider = s.divider := rfl
@[simp] theorem State.replied_clock (s : State) (j : EngineJob) (st : Status) (r : List Byte) :
    (s.replied j st r).clock = s.clock := rfl
@[simp] theorem State.replied_restartProgress (s : State) (j : EngineJob) (st : Status) (r : List Byte) :
    (s.replied j st r).restartProgress = s.restartProgress := rfl
@[simp] theorem State.replied_startWindow (s : State) (j : EngineJob) (st : Status) (r : List Byte) :
    (s.replied j st r).startWindow = s.startWindow := rfl
@[simp] theorem State.replied_missingCycles (s : State) (j : EngineJob) (st : Status) (r : List Byte) :
    (s.replied j st r).missingCycles = s.missingCycles := rfl
@[simp] theorem State.replied_proving (s : State) (j : EngineJob) (st : Status) (r : List Byte) :
    (s.replied j st r).proving = s.proving := rfl
@[simp] theorem State.replied_authority (s : State) (j : EngineJob) (st : Status) (r : List Byte) :
    (s.replied j st r).authority = s.authority := rfl
@[simp] theorem State.replied_armed (s : State) (j : EngineJob) (st : Status) (r : List Byte) :
    (s.replied j st r).armed = s.armed := rfl
@[simp] theorem State.replied_sync (s : State) (j : EngineJob) (st : Status) (r : List Byte) :
    (s.replied j st r).sync = s.sync := rfl
@[simp] theorem State.replied_inputs (s : State) (j : EngineJob) (st : Status) (r : List Byte) :
    (s.replied j st r).inputs = s.inputs := rfl
@[simp] theorem State.replied_sampled (s : State) (j : EngineJob) (st : Status) (r : List Byte) :
    (s.replied j st r).sampled = s.sampled := rfl
@[simp] theorem State.replied_rawInputs (s : State) (j : EngineJob) (st : Status) (r : List Byte) :
    (s.replied j st r).rawInputs = s.rawInputs := rfl
@[simp] theorem State.replied_rawSync (s : State) (j : EngineJob) (st : Status) (r : List Byte) :
    (s.replied j st r).rawSync = s.rawSync := rfl
@[simp] theorem State.replied_lines (s : State) (j : EngineJob) (st : Status) (r : List Byte) :
    (s.replied j st r).lines = s.lines := rfl
@[simp] theorem State.replied_slots (s : State) (j : EngineJob) (st : Status) (r : List Byte) :
    (s.replied j st r).slots = s.slots := rfl
@[simp] theorem State.replied_useCounts (s : State) (j : EngineJob) (st : Status) (r : List Byte) :
    (s.replied j st r).useCounts = s.useCounts := rfl
@[simp] theorem State.replied_clients (s : State) (j : EngineJob) (st : Status) (r : List Byte) :
    (s.replied j st r).clients = s.clients := rfl
@[simp] theorem State.replied_pointer (s : State) (j : EngineJob) (st : Status) (r : List Byte) :
    (s.replied j st r).pointer = s.pointer := rfl
@[simp] theorem State.replied_choice (s : State) (j : EngineJob) (st : Status) (r : List Byte) :
    (s.replied j st r).choice = s.choice := rfl
@[simp] theorem State.replied_fourWire (s : State) (j : EngineJob) (st : Status) (r : List Byte) :
    (s.replied j st r).fourWire = s.fourWire := rfl
@[simp] theorem State.replied_selA (s : State) (j : EngineJob) (st : Status) (r : List Byte) :
    (s.replied j st r).selA = s.selA := rfl
@[simp] theorem State.replied_selB (s : State) (j : EngineJob) (st : Status) (r : List Byte) :
    (s.replied j st r).selB = s.selB := rfl
@[simp] theorem State.replied_twoWire (s : State) (j : EngineJob) (st : Status) (r : List Byte) :
    (s.replied j st r).twoWire = s.twoWire := rfl
@[simp] theorem State.replied_sdaAck (s : State) (j : EngineJob) (st : Status) (r : List Byte) :
    (s.replied j st r).sdaAck = s.sdaAck := rfl
@[simp] theorem State.replied_supplyUv (s : State) (j : EngineJob) (st : Status) (r : List Byte) :
    (s.replied j st r).supplyUv = s.supplyUv := rfl
@[simp] theorem State.replied_supplyState (s : State) (j : EngineJob) (st : Status) (r : List Byte) :
    (s.replied j st r).supplyState = s.supplyState := rfl
@[simp] theorem State.replied_holdFilter (s : State) (j : EngineJob) (st : Status) (r : List Byte) :
    (s.replied j st r).holdFilter = s.holdFilter := rfl
@[simp] theorem State.replied_powerUpFlag (s : State) (j : EngineJob) (st : Status) (r : List Byte) :
    (s.replied j st r).powerUpFlag = s.powerUpFlag := rfl
@[simp] theorem State.replied_collapseLatch (s : State) (j : EngineJob) (st : Status) (r : List Byte) :
    (s.replied j st r).collapseLatch = s.collapseLatch := rfl
@[simp] theorem State.replied_resetn (s : State) (j : EngineJob) (st : Status) (r : List Byte) :
    (s.replied j st r).resetn = s.resetn := rfl
@[simp] theorem State.replied_phase (s : State) (j : EngineJob) (st : Status) (r : List Byte) :
    (s.replied j st r).phase = s.phase := rfl
@[simp] theorem State.replied_lastReset (s : State) (j : EngineJob) (st : Status) (r : List Byte) :
    (s.replied j st r).lastReset = s.lastReset := rfl
@[simp] theorem State.replied_options (s : State) (j : EngineJob) (st : Status) (r : List Byte) :
    (s.replied j st r).options = s.options := rfl
@[simp] theorem State.replied_optionStatus (s : State) (j : EngineJob) (st : Status) (r : List Byte) :
    (s.replied j st r).optionStatus = s.optionStatus := rfl
@[simp] theorem State.replied_copyA (s : State) (j : EngineJob) (st : Status) (r : List Byte) :
    (s.replied j st r).copyA = s.copyA := rfl
@[simp] theorem State.replied_copyB (s : State) (j : EngineJob) (st : Status) (r : List Byte) :
    (s.replied j st r).copyB = s.copyB := rfl
@[simp] theorem State.replied_recordA (s : State) (j : EngineJob) (st : Status) (r : List Byte) :
    (s.replied j st r).recordA = s.recordA := rfl
@[simp] theorem State.replied_recordB (s : State) (j : EngineJob) (st : Status) (r : List Byte) :
    (s.replied j st r).recordB = s.recordB := rfl
@[simp] theorem State.replied_store (s : State) (j : EngineJob) (st : Status) (r : List Byte) :
    (s.replied j st r).store = s.store := rfl
@[simp] theorem State.replied_freeCount (s : State) (j : EngineJob) (st : Status) (r : List Byte) :
    (s.replied j st r).freeCount = s.freeCount := rfl
@[simp] theorem State.replied_pending (s : State) (j : EngineJob) (st : Status) (r : List Byte) :
    (s.replied j st r).pending = s.pending := rfl

end Sys2Proof.Machine
end

