-- ==== Sys2Proof/Laws/Ops.lean ====
section
/-!
SUPPORT. What the shared operations do, said once: the accessors after each update, the free order, the
posting of notices, and the settling of the events that are due.
-/

namespace Sys2Proof.Machine

/-! ## Vectors -/

/-- A tabulated vector holds at each place what its function gives. -/
@[simp] theorem getElem_tabulate {α : Type} (n : Nat) (f : Fin n → α) (i : Nat) (h : i < n) :
    (tabulate n f)[i] = f ⟨i, h⟩ := by
  simp [tabulate]

/-! ## Accessors after updates -/

@[simp] theorem client_setClient (s : State) (c d : ClientId) (r : Client) :
    (s.setClient c r).client d = if c = d then r else s.client d := by
  simp only [State.client, State.setClient, Vector.getElem_set, Fin.ext_iff]

@[simp] theorem client_modifyClient (s : State) (c d : ClientId) (f : Client → Client) :
    (s.modifyClient c f).client d = if c = d then f (s.client c) else s.client d := by
  simp only [State.modifyClient, client_setClient]

@[simp] theorem line_setLine (s : State) (l m : LineId) (r : Line) :
    (s.setLine l r).line m = if l = m then r else s.line m := by
  simp only [State.line, State.setLine, Vector.getElem_set, Fin.ext_iff]

@[simp] theorem input_setInput (s : State) (i k : InputId) (r : Input) :
    (s.setInput i r).input k = if i = k then r else s.input k := by
  simp only [State.input, State.setInput, Vector.getElem_set, Fin.ext_iff]

@[simp] theorem slot_setSlot (s : State) (k m : SlotId) (e : Option Entry) :
    (s.setSlot k e).slot m = if k = m then e else s.slot m := by
  simp only [State.slot, State.setSlot, Vector.getElem_set, Fin.ext_iff]

@[simp] theorem slot_removeEntries (s : State) (pick : Entry → Bool) (k : SlotId) :
    (removeEntries pick s).slot k = (s.slot k).filter fun e => !pick e := by
  simp only [removeEntries, State.slot, getElem_tabulate]

@[simp] theorem line_parkLines (s : State) (l : LineId) :
    (parkLines s).line l = (s.line l).parked := by
  simp only [parkLines, State.line, getElem_tabulate]

@[simp] theorem line_leaveAllQueues (s : State) (c : ClientId) (l : LineId) :
    (leaveAllQueues c s).line l
      = { s.line l with waiters := (s.line l).waiters.filter fun w => w.client != c } := by
  simp only [leaveAllQueues, State.line, getElem_tabulate]

@[simp] theorem client_setLine (s : State) (l : LineId) (r : Line) (c : ClientId) :
    (s.setLine l r).client c = s.client c := rfl
@[simp] theorem client_setSlot (s : State) (k : SlotId) (e : Option Entry) (c : ClientId) :
    (s.setSlot k e).client c = s.client c := rfl
@[simp] theorem client_setInput (s : State) (i : InputId) (r : Input) (c : ClientId) :
    (s.setInput i r).client c = s.client c := rfl
@[simp] theorem client_useFree (s : State) (n : Nat) (c : ClientId) :
    (s.useFree n).client c = s.client c := rfl
@[simp] theorem client_replied (s : State) (j : EngineJob) (st : Status) (r : List Byte)
    (c : ClientId) : (s.replied j st r).client c = s.client c := rfl
@[simp] theorem line_setClient (s : State) (c : ClientId) (r : Client) (l : LineId) :
    (s.setClient c r).line l = s.line l := rfl
@[simp] theorem line_setSlot (s : State) (k : SlotId) (e : Option Entry) (l : LineId) :
    (s.setSlot k e).line l = s.line l := rfl
@[simp] theorem line_useFree (s : State) (n : Nat) (l : LineId) :
    (s.useFree n).line l = s.line l := rfl
@[simp] theorem line_replied (s : State) (j : EngineJob) (st : Status) (r : List Byte)
    (l : LineId) : (s.replied j st r).line l = s.line l := rfl
@[simp] theorem slot_setClient (s : State) (c : ClientId) (r : Client) (k : SlotId) :
    (s.setClient c r).slot k = s.slot k := rfl
@[simp] theorem slot_setLine (s : State) (l : LineId) (r : Line) (k : SlotId) :
    (s.setLine l r).slot k = s.slot k := rfl
@[simp] theorem slot_useFree (s : State) (n : Nat) (k : SlotId) :
    (s.useFree n).slot k = s.slot k := rfl
@[simp] theorem slot_replied (s : State) (j : EngineJob) (st : Status) (r : List Byte)
    (k : SlotId) : (s.replied j st r).slot k = s.slot k := rfl

/-! ## The free order -/

theorem insertAt_perm {α : Type} (x : α) (l : List α) (k : Nat) : (insertAt x l k).Perm (x :: l) := by
  induction l generalizing k with
  | nil => exact List.Perm.refl _
  | cons y ys ih =>
    cases k with
    | zero => exact List.Perm.refl _
    | succ k => exact ((ih k).cons y).trans (List.Perm.swap x y ys)

/-- A free order is an order of the same list: nothing is lost and nothing is taken twice. -/
theorem freeOrder_perm {α : Type} (start : Nat) (l : List α) : (freeOrder start l).Perm l := by
  induction l generalizing start with
  | nil => exact List.Perm.refl _
  | cons x xs ih => exact (insertAt_perm x _ _).trans ((ih (start + 1)).cons x)

@[simp] theorem freeOrder_nil {α : Type} (start : Nat) : freeOrder start ([] : List α) = [] := rfl

@[simp] theorem freeOrder_single {α : Type} (start : Nat) (x : α) : freeOrder start [x] = [x] := rfl

/-! ## Postings -/

/-- Between two states only notice queues and notices-lost flags differ. -/
def OnlyNotices (s t : State) : Prop :=
  ∃ vs, t = { s with clients := vs } ∧ ∀ c : ClientId,
    ∃ ns lost, vs[c.val] = { s.client c with notices := ns, lost := lost }

theorem OnlyNotices.refl (s : State) : OnlyNotices s s :=
  ⟨s.clients, rfl, fun c => ⟨(s.client c).notices, (s.client c).lost, rfl⟩⟩

theorem OnlyNotices.trans {s t u : State} (h : OnlyNotices s t) (k : OnlyNotices t u) :
    OnlyNotices s u := by
  obtain ⟨vs, rfl, hv⟩ := h
  obtain ⟨ws, rfl, hw⟩ := k
  refine ⟨ws, rfl, fun c => ?_⟩
  obtain ⟨ns, lost, h1⟩ := hv c
  obtain ⟨ns', lost', h2⟩ := hw c
  refine ⟨ns', lost', ?_⟩
  have h3 : State.client { s with clients := vs } c = vs[c.val] := rfl
  rw [h2, h3, h1]

/-- A posting to one client touches nothing but that client's notice queue and notices-lost flag. -/
theorem postNotice_onlyNotices (c : ClientId) (kind : NoticeKind) (subject : BitVec 16)
    (detail : NoticeDetail) (tag : BitVec 16) (s : State) :
    OnlyNotices s (postNotice c kind subject detail tag s) := by
  unfold postNotice
  split
  · refine ⟨_, rfl, fun d => ?_⟩
    by_cases h : c = d
    · subst h
      exact ⟨_, _, by rw [Vector.getElem_set_self]⟩
    · refine ⟨(s.client d).notices, (s.client d).lost, ?_⟩
      rw [Vector.getElem_set_ne _ _ (by simpa [Fin.ext_iff] using h)]
      rfl
  · exact OnlyNotices.refl s

/-- A fold keeps what each of its steps keeps. -/
theorem foldl_keeps {α β : Type} (P : β → Prop) (f : β → α → β) (l : List α) (b : β)
    (step : ∀ b a, a ∈ l → P b → P (f b a)) (h : P b) : P (l.foldl f b) := by
  induction l generalizing b with
  | nil => exact h
  | cons x xs ih =>
    exact ih (f b x) (fun b a m => step b a (List.mem_cons_of_mem x m)) (step b x List.mem_cons_self h)

/-- A posting to every OPEN client touches nothing but notice queues and notices-lost flags. -/
theorem postAll_onlyNotices (kind : NoticeKind) (detail : NoticeDetail) (s : State) :
    OnlyNotices s (postAll kind detail s) := by
  unfold postAll
  exact foldl_keeps (OnlyNotices s) _ _ _
    (fun b _ _ hb => hb.trans (postNotice_onlyNotices _ _ _ _ _ b)) (OnlyNotices.refl s)

/-- A client keeps all but its notices and its lost flag where only notices differ. -/
theorem OnlyNotices.client {s t : State} (h : OnlyNotices s t) (c : ClientId) :
    ∃ ns lost, t.client c = { s.client c with notices := ns, lost := lost } := by
  obtain ⟨vs, rfl, hv⟩ := h
  exact hv c

theorem OnlyNotices.isOpen {s t : State} (h : OnlyNotices s t) (c : ClientId) :
    t.isOpen c = s.isOpen c := by
  obtain ⟨ns, lost, hc⟩ := h.client c
  simp only [State.isOpen, hc, Client.isOpen]

/-! ## Settling -/

/-- What every due event, every take and every use of a free value keeps, settling keeps. -/
theorem settle_keeps (P : State → Prop) (s : State)
    (free : ∀ t n, P t → P (t.useFree n))
    (events : ∀ t (e : DueEvent), e ∈ dueEvents s → P t → P (e.run t))
    (take : ∀ t, P t → P (takeRequest t)) (h : P s) : P (settle s) := by
  unfold settle takeAll
  apply take
  apply take
  apply take
  apply take
  exact foldl_keeps P _ _ _
    (fun t e m ht => events t e ((freeOrder_perm _ _).mem_iff.mp m) ht) (free s _ h)

/-- With nothing due and nothing to take, settling changes nothing. -/
theorem settle_quiet (s : State) (due : dueEvents s = []) (take : takeRequest s = s) :
    settle s = s := by
  simp only [settle, due, freeOrder_nil, List.foldl_nil, List.length_nil]
  show takeAll s = s
  simp only [takeAll, take]

/-! ## Requests -/

/-- The execution of the request held, when it is of the kind wanted: the request's own effect, and the
reply kept with the request. -/
theorem runRequest_executing (want : Byte → Bool) (f : Request) {s : State} {j : EngineJob}
    {kind : Byte} {params : List Byte} (h : Executing s j kind params) (w : want kind = true) :
    runRequest want f s
      = ((f j.client params s).1).replied j (f j.client params s).2.1 (f j.client params s).2.2 := by
  obtain ⟨he, ho, hk, hp, hr⟩ := h
  subst hk hp
  simp [runRequest, holdsRequest, he, ho, hr, w, State.replied]

/-- A request that is not held is not executed. -/
theorem runRequest_idle (want : Byte → Bool) (f : Request) (s : State)
    (h : holdsRequest want s = none) : runRequest want f s = s := by
  simp only [runRequest, h]

end Sys2Proof.Machine
end

