-- ==== Sys2Proof/Laws/Calendar.lean ====
section
/-!
SUPPORT. What the operations of the calendar and of the sessions can touch, said once: provers cite these
frames instead of unfolding the operations.
-/

namespace Sys2Proof.Machine

/-- Between two states only lines, slots, the free-value counter, notice queues and notices-lost flags
differ: what an occurrence, a late resolution and a withdrawal can touch. -/
def CalendarMoved (s t : State) : Prop :=
  ∃ ls ks n, OnlyNotices { s with lines := ls, slots := ks, freeCount := n } t

theorem CalendarMoved.refl (s : State) : CalendarMoved s s :=
  ⟨s.lines, s.slots, s.freeCount, OnlyNotices.refl s⟩

theorem CalendarMoved.trans {s t u : State} (h : CalendarMoved s t) (k : CalendarMoved t u) :
    CalendarMoved s u := by
  obtain ⟨ls, ks, n, vs, rfl, hv⟩ := h
  obtain ⟨ls', ks', n', ws, rfl, hw⟩ := k
  refine ⟨ls', ks', n', ws, rfl, fun c => ?_⟩
  obtain ⟨ns, lost, h1⟩ := hv c
  obtain ⟨ns', lost', h2⟩ := hw c
  refine ⟨ns', lost', ?_⟩
  simp only [State.client] at h1 h2 ⊢
  rw [h2, h1]

theorem CalendarMoved.of_onlyNotices {s t : State} (h : OnlyNotices s t) : CalendarMoved s t :=
  ⟨s.lines, s.slots, s.freeCount, h⟩

theorem CalendarMoved.of_fields (s : State) (ls : Vector Line 8) (ks : Vector (Option Entry) 64)
    (n : Nat) : CalendarMoved s { s with lines := ls, slots := ks, freeCount := n } :=
  ⟨ls, ks, n, OnlyNotices.refl _⟩

/-- A quantity that does not read what the calendar touches is the same after. -/
theorem CalendarMoved.same {α : Type} {s t : State} (h : CalendarMoved s t) (f : State → α)
    (hf : ∀ (u : State) ls ks n vs,
      f { u with lines := ls, slots := ks, freeCount := n, clients := vs } = f u) : f t = f s := by
  obtain ⟨ls, ks, n, vs, rfl, _⟩ := h
  exact hf s ls ks n vs

/-- A client keeps all but its notices and its lost flag. -/
theorem CalendarMoved.client {s t : State} (h : CalendarMoved s t) (c : ClientId) :
    ∃ ns lost, t.client c = { s.client c with notices := ns, lost := lost } := by
  obtain ⟨ls, ks, n, h⟩ := h
  exact h.client c

theorem applyEntry_moved (e : Entry) (s : State) : CalendarMoved s (applyEntry e s) := by
  unfold applyEntry
  split
  · exact .of_fields s _ s.slots s.freeCount
  · exact .refl s

theorem postFired_onlyNotices (e : Entry) (outcome : FireOutcome) (remaining : RepeatCount)
    (last : Bool) (s : State) : OnlyNotices s (postFired e outcome remaining last s) := by
  unfold postFired
  split
  · exact .refl s
  · exact postNotice_onlyNotices ..
  · split
    · exact postNotice_onlyNotices ..
    · exact .refl s

theorem postWithdrawn_onlyNotices (e : Entry) (reason : WithdrawReason) (s : State) :
    OnlyNotices s (postWithdrawn e reason s) := by
  unfold postWithdrawn
  split
  · exact .refl s
  · exact postNotice_onlyNotices ..
  · exact postNotice_onlyNotices ..

theorem setSlot_moved (s : State) (k : SlotId) (e : Option Entry) :
    CalendarMoved s (s.setSlot k e) := .of_fields s s.lines _ s.freeCount

theorem advanceEntry_moved (k : SlotId) (e : Entry) (n : Nat) (outcome : FireOutcome) (s : State) :
    CalendarMoved s (advanceEntry k e n outcome s) :=
  (setSlot_moved s k _).trans (.of_onlyNotices (postFired_onlyNotices ..))

/-- An occurrence touches lines, slots and notices only (R81). -/
theorem takeOccurrence_moved (k : SlotId) (s : State) : CalendarMoved s (takeOccurrence k s) := by
  unfold takeOccurrence
  split
  · split
    · exact (applyEntry_moved _ s).trans (advanceEntry_moved ..)
    · exact .refl s
  · exact .refl s

/-- The resolution of one late entry touches lines, slots and notices only (R69). -/
theorem resolveEntry_moved (k : SlotId) (s : State) : CalendarMoved s (resolveEntry k s) := by
  unfold resolveEntry
  split
  · exact .refl s
  · split
    · split
      · exact (applyEntry_moved _ s).trans (advanceEntry_moved ..)
      · exact advanceEntry_moved ..
      · exact (setSlot_moved s k none).trans (.of_onlyNotices (postWithdrawn_onlyNotices ..))
    · exact .refl s

theorem takeDueOccurrences_moved (s : State) : CalendarMoved s (takeDueOccurrences s) := by
  unfold takeDueOccurrences
  exact foldl_keeps (CalendarMoved s) _ _ _ (fun b a _ hb => hb.trans (takeOccurrence_moved a b))
    (.of_fields s s.lines s.slots _)

/-- A late resolution touches lines, slots and notices only (R69, R70). -/
theorem resolveLate_moved (s : State) : CalendarMoved s (resolveLate s) := by
  unfold resolveLate
  refine CalendarMoved.trans ?_ (takeDueOccurrences_moved _)
  exact foldl_keeps (CalendarMoved s) _ _ _ (fun b a _ hb => hb.trans (resolveEntry_moved a b))
    (.refl s)

/-- The withdrawal of the strict entries touches slots and notices only (R76). -/
theorem withdrawStrict_moved (s : State) : CalendarMoved s (withdrawStrict s) := by
  unfold withdrawStrict
  exact foldl_keeps (CalendarMoved s) _ _ _
    (fun b a _ hb => hb.trans
      ((setSlot_moved b a.1 none).trans (.of_onlyNotices (postWithdrawn_onlyNotices ..))))
    (.refl s)

/-- An accepted step replaces the count, sets the time, and moves the calendar (R26). -/
theorem timeStep_moved (new : Count) (s : State) :
    CalendarMoved { s with timebase := new, timeState := .set } (timeStep new s) := by
  unfold timeStep
  dsimp only
  split
  · exact (CalendarMoved.of_onlyNotices (postAll_onlyNotices ..)).trans (resolveLate_moved _)
  · exact .of_onlyNotices (postAll_onlyNotices ..)

/-- The end of a lease touches its line and the new holder's notices only (R39 to R41). -/
theorem passOn_moved (l : LineId) (s : State) : CalendarMoved s (passOn l s) := by
  unfold passOn
  dsimp only
  split
  · exact (CalendarMoved.of_fields s _ s.slots s.freeCount).trans
      (.of_onlyNotices (postNotice_onlyNotices ..))
  · exact .of_fields s _ s.slots s.freeCount

/-- The departure of a line touches lines, slots and notices only (R50). -/
theorem departLine_moved (c : ClientId) (l : LineId) (s : State) :
    CalendarMoved s (departLine c l s) := by
  unfold departLine
  split
  · split
    · exact ((CalendarMoved.of_fields s s.lines _ s.freeCount).trans
        (.of_fields _ _ _ _)).trans (passOn_moved _ _)
    · exact .refl s
  · exact .refl s

/-- A posting to one client leaves the other clients as they were. -/
theorem client_postNotice_other (c d : ClientId) (kind : NoticeKind) (subject : BitVec 16)
    (detail : NoticeDetail) (tag : BitVec 16) (s : State) (h : c ≠ d) :
    (postNotice c kind subject detail tag s).client d = s.client d := by
  unfold postNotice
  split
  · simp [h]
  · rfl

/-- What a posting makes of the clients depends on the clients and the run count only. -/
theorem clients_postNotice_congr (c : ClientId) (kind : NoticeKind) (subject : BitVec 16)
    (detail : NoticeDetail) (tag : BitVec 16) (s t : State) (hc : t.clients = s.clients)
    (hr : t.run = s.run) :
    (postNotice c kind subject detail tag t).clients
      = (postNotice c kind subject detail tag s).clients := by
  unfold postNotice State.isOpen State.modifyClient State.setClient State.client
  rw [hc, hr]
  split <;> simp [hc]

/-! ## The entries and due order -/

/-- The entries are what the slots hold (R54). -/
theorem mem_entries (s : State) (p : SlotId × Entry) : p ∈ s.entries ↔ s.slot p.1 = some p.2 := by
  obtain ⟨k, e⟩ := p
  unfold State.entries
  simp only [List.mem_filterMap]
  constructor
  · rintro ⟨m, _, h⟩
    cases hm : s.slot m with
    | none => simp [hm] at h
    | some f =>
      rw [hm] at h
      simp only [Option.map_some, Option.some.injEq, Prod.mk.injEq] at h
      obtain ⟨rfl, rfl⟩ := h
      exact hm
  · intro h
    refine ⟨k, (show ∀ k : SlotId, k ∈ allSlots by decide) k, ?_⟩
    have held : s.slot k = some e := h
    simp [held]

/-- No slot stands twice among the entries. -/
theorem entries_nodup (s : State) : (s.entries.map Prod.fst).Nodup := by
  have sub : (s.entries.map Prod.fst).Sublist allSlots := by
    unfold State.entries
    generalize allSlots = l
    induction l with
    | nil => exact .slnil
    | cons k ks ih =>
      cases h : s.slot k with
      | none => simpa [h] using ih.cons k
      | some e => simpa [h] using ih
  exact sub.nodup (by decide)

/-- Of two entries one stands before the other, or they stand together (R59). -/
theorem dueBefore_total (count : Count) (a b : Entry) (h : dueBefore count a b = false) :
    dueBefore count b a = true := by
  simp only [dueBefore, Bool.or_eq_false_iff, Bool.and_eq_false_iff, decide_eq_false_iff_not,
    beq_eq_false_iff_ne, Bool.or_eq_true, Bool.and_eq_true, decide_eq_true_eq, beq_iff_eq] at *
  omega

/-- Due order is transitive (R59). -/
theorem dueBefore_trans (count : Count) (a b c : Entry) (h : dueBefore count a b = true)
    (k : dueBefore count b c = true) : dueBefore count a c = true := by
  simp only [dueBefore, Bool.or_eq_true, Bool.and_eq_true, decide_eq_true_eq, beq_iff_eq] at *
  omega

/-- An insertion in due order adds the entry and loses none. -/
theorem insertByDue_perm (count : Count) (x : SlotId × Entry) (l : List (SlotId × Entry)) :
    (insertByDue count x l).Perm (x :: l) := by
  induction l with
  | nil => exact .refl _
  | cons y ys ih =>
    unfold insertByDue
    split
    · exact .refl _
    · exact (ih.cons y).trans (.swap _ _ _)

/-- Sorting by due keeps the entries. -/
theorem sortByDue_perm (count : Count) (l : List (SlotId × Entry)) : (sortByDue count l).Perm l := by
  induction l with
  | nil => exact .refl _
  | cons y ys ih => exact (insertByDue_perm count y _).trans (ih.cons y)

/-- Sorting by due puts the entries in due order (R59). -/
theorem sortByDue_sorted (count : Count) (l : List (SlotId × Entry)) :
    (sortByDue count l).Pairwise fun p q => dueBefore count p.2 q.2 = true := by
  induction l with
  | nil => exact .nil
  | cons x xs ih =>
    show (insertByDue count x (sortByDue count xs)).Pairwise _
    generalize sortByDue count xs = l at ih
    induction l with
    | nil => simp [insertByDue]
    | cons y ys go =>
      obtain ⟨first, rest⟩ := List.pairwise_cons.1 ih
      unfold insertByDue
      split
      · rename_i before
        refine List.pairwise_cons.2 ⟨fun q hq => ?_, ih⟩
        rcases List.mem_cons.1 hq with rfl | hq
        · exact before
        · exact dueBefore_trans count _ _ _ before (first q hq)
      · rename_i after
        refine List.pairwise_cons.2 ⟨fun q hq => ?_, go rest⟩
        rcases List.mem_cons.1 ((insertByDue_perm count x ys).mem_iff.1 hq) with rfl | hq
        · exact dueBefore_total count _ _ (by simpa using after)
        · exact first q hq

end Sys2Proof.Machine
end

