-- ==== Sys2Proof/Laws/Clock.lean ====
section
/-!
SUPPORT. What a cycle of an oscillator, a stretch of cycles and a tick can do, said once; and a device in
which nothing is due.
-/

namespace Sys2Proof.Machine

/-! ## A device in which nothing is due -/

/-- With no frame to take and a running device, a take does nothing. -/
theorem takeRequest_of_not_due (s : State) (running : s.phase = .running) (h : s.takeDue = false) :
    takeRequest s = s := by
  unfold takeRequest
  cases he : s.engine with
  | some j => simp
  | none =>
    have hn : nextClient s = none := by simpa [State.takeDue, he, running] using h
    simp [running, hn]

/-- With nothing due, settling changes nothing. -/
theorem settle_of_no_due (s : State) (running : s.phase = .running) (due : dueEvents s = []) :
    settle s = s := by
  refine settle_quiet s due (takeRequest_of_not_due s running ?_)
  cases h : s.takeDue
  · rfl
  · simp [dueEvents, h] at due

/-! ## One cycle -/

/-- A cycle that the clock supervisor counts touches the supervisor's four counts only. -/
theorem superviseCycle_counts (o : Oscillator) (s : State) :
    ∃ missing window progress proving, superviseCycle o s
      = { s with missingCycles := missing, startWindow := window, restartProgress := progress,
                 proving := proving } := by
  cases o
  · simp only [superviseCycle]
    unfold mainCycle restartEdge
    repeat' split
    all_goals exact ⟨_, _, _, _, rfl⟩
  · simp only [superviseCycle]
    unfold backupCycle countSilence provingBackupCycle
    repeat' split
    all_goals exact ⟨_, _, _, _, rfl⟩

/-- A cycle of the tick source with the divider at 7 issues the tick (R1). -/
theorem oscillatorCycle_tick (o : Oscillator) (s : State) (source : s.tickSource = some o)
    (last : s.divider = 7) : oscillatorCycle o s = tickCore (superviseCycle o s) := by
  obtain ⟨_, _, _, _, h⟩ := superviseCycle_counts o s
  simp only [oscillatorCycle, source, if_true]
  rw [if_pos (by rw [h]; exact last)]

/-- Any other cycle of the tick source advances the divider (R1). -/
theorem oscillatorCycle_count (o : Oscillator) (s : State) (source : s.tickSource = some o)
    (before : s.divider ≠ 7) :
    oscillatorCycle o s = { superviseCycle o s with divider := s.divider + 1 } := by
  obtain ⟨_, _, _, _, h⟩ := superviseCycle_counts o s
  simp only [oscillatorCycle, source, if_true]
  rw [if_neg (by rw [h]; exact before), h]

/-- A cycle of the other oscillator is counted by the clock supervisor only. -/
theorem oscillatorCycle_other (o : Oscillator) (s : State) (other : s.tickSource ≠ some o) :
    oscillatorCycle o s = superviseCycle o s := by
  simp only [oscillatorCycle, other, if_false]

/-- What the counting of a cycle, a tick and an advance of the divider keep, a cycle keeps. -/
theorem oscillatorCycle_keeps (P : State → Prop) (o : Oscillator) (s : State)
    (counts : ∀ m w r p, P { s with missingCycles := m, startWindow := w, restartProgress := r,
                                    proving := p })
    (divider : ∀ t d, P t → P { t with divider := d }) (tick : ∀ t, P t → P (tickCore t)) :
    P (oscillatorCycle o s) := by
  obtain ⟨m, w, r, p, h⟩ := superviseCycle_counts o s
  have hc : P (superviseCycle o s) := by rw [h]; exact counts m w r p
  unfold oscillatorCycle
  dsimp only
  split
  · split
    · exact tick _ hc
    · exact divider _ _ hc
  · exact hc

/-! ## Stretches of cycles -/

/-- With nothing due, a cycle of an oscillator that runs is that cycle alone. -/
theorem passCycle_of_no_due (s : State) (o : Oscillator) (running : s.phase = .running)
    (due : dueEvents s = []) (runs : o = .main → s.mainRunning = true) :
    passCycle s o = oscillatorCycle o s := by
  unfold passCycle
  rw [if_pos running, settle_of_no_due s running due]
  dsimp only
  rw [if_neg]
  rintro ⟨rfl, h⟩
  rw [runs rfl] at h
  cases h

/-- Outside the running device no cycle passes. -/
theorem passCycles_not_running (cycles : List Oscillator) (s : State) (h : s.phase ≠ .running) :
    passCycles cycles s = s := by
  unfold passCycles
  exact foldl_keeps (fun t => t = s) _ _ _
    (fun t o _ ht => by subst ht; unfold passCycle; rw [if_neg h]) rfl

/-- What settling and each cycle keep, a stretch of cycles keeps. -/
theorem passCycles_keeps (P : State → Prop) (cycles : List Oscillator) (s : State)
    (settled : ∀ t, t.phase = .running → P t → P (settle t))
    (cycle : ∀ t o, P (settle t) → P (oscillatorCycle o (settle t))) (h : P s) :
    P (passCycles cycles s) := by
  unfold passCycles
  refine foldl_keeps P _ _ _ (fun t o _ ht => ?_) h
  unfold passCycle
  dsimp only
  split
  · rename_i running
    split
    · exact settled t running ht
    · exact cycle t o (settled t running ht)
  · exact ht

/-- A tick is either no tick and changes nothing, or the stretch of its cycles. -/
theorem tick_cases (cycles : List Oscillator) (pins : PinSample) (s : State) :
    tick cycles pins s = s
      ∨ tick cycles pins s
          = passCycles cycles { s with rawInputs := pins.inputs, rawSync := pins.sync } := by
  unfold tick
  dsimp only
  split
  · exact .inr rfl
  · exact .inl rfl

/-- An event of the clock supervisor that lacks no cycle is taken when it is on offer. -/
theorem passTo_nil (offered : State → Bool) (event : State → State) (s : State) :
    passTo [] offered event s = if offered s = true then event s else s := by
  simp [passTo, passCycles]

/-- An event of the clock supervisor is taken after its cycles, or nothing happens. -/
theorem passTo_cases (owed : List Oscillator) (offered : State → Bool) (event : State → State)
    (s : State) :
    passTo owed offered event s = s
      ∨ passTo owed offered event s = event (passCycles owed s)
        ∧ (passCycles owed s).run = s.run ∧ offered (passCycles owed s) = true := by
  unfold passTo
  dsimp only
  split
  · rename_i h
    exact .inr ⟨rfl, h.1, h.2⟩
  · exact .inl rfl

/-! ## The cycles that an end of a restart lacks -/

/-- With nothing due, nothing becomes due as the supervisor's counts and the divider move, but for the
supervisor's own events. -/
theorem dueEvents_counts (s : State) (missing : Nat) (window : Option Nat) (progress : Nat)
    (divider : Fin 8) (due : dueEvents s = []) :
    let t := { s with missingCycles := missing, startWindow := window, restartProgress := progress,
                      divider := divider }
    t.failoverDue = false → t.restartProven = false → t.restartLost = false → t.windowOver = false →
    dueEvents t = [] := by
  intro t failover proven lost ended
  unfold dueEvents at due ⊢
  simp only [List.append_eq_nil_iff] at due ⊢
  obtain ⟨⟨⟨⟨⟨⟨⟨⟨⟨⟨⟨⟨⟨edges, sync⟩, occurrences⟩, pulses⟩, expiries⟩, entry⟩, exit⟩, store⟩, _⟩, _⟩, _⟩, _⟩,
    take⟩, request⟩ := due
  refine ⟨⟨⟨⟨⟨⟨⟨⟨⟨⟨⟨⟨⟨edges, sync⟩, occurrences⟩, pulses⟩, expiries⟩, entry⟩, exit⟩, store⟩, ?_⟩, ?_⟩, ?_⟩,
    ?_⟩, take⟩, request⟩
  · simp only [failover]; rfl
  · simp only [proven]; rfl
  · simp only [lost]; rfl
  · simp only [ended]; rfl

/-- The first cycle of a stretch passes before the others. -/
theorem passCycles_cons (o : Oscillator) (rest : List Oscillator) (s : State) :
    passCycles (o :: rest) s = passCycles rest (passCycle s o) := rfl

/-- Cycles of the backup oscillator without a tick, before each of which nothing is due: `counted k` is the
device after `k` of them. -/
theorem passCycles_backup (counted : Nat → State) (n : Nat)
    (running : ∀ k, (counted k).phase = .running)
    (source : ∀ k, (counted k).tickSource = some .backup)
    (quiet : ∀ k < n, dueEvents (counted k) = []) (below : ∀ k < n, (counted k).divider ≠ 7)
    (cycle : ∀ k < n, { superviseCycle .backup (counted k) with divider := (counted k).divider + 1 }
      = counted (k + 1)) :
    passCycles (List.replicate n .backup) (counted 0) = counted n := by
  have go : ∀ m k, k + m = n → passCycles (List.replicate m .backup) (counted k) = counted n := by
    intro m
    induction m with
    | zero => rintro k rfl; rfl
    | succ m ih =>
      intro k h
      have hk : k < n := by omega
      rw [List.replicate_succ, passCycles_cons,
        passCycle_of_no_due _ _ (running k) (quiet k hk) (fun h => by cases h),
        oscillatorCycle_count _ _ (source k) (below k hk), cycle k hk]
      exact ih (k + 1) (by omega)
  exact go n 0 (by omega)

/-- The divider after some cycles: one more, without a tick. -/
theorem divider_succ (d k : Nat) : Fin.ofNat 8 (d + k) + 1 = Fin.ofNat 8 (d + (k + 1)) := by
  apply Fin.ext
  show ((d + k) % 8 + 1) % 8 = (d + (k + 1)) % 8
  omega

/-- The divider after no cycle. -/
theorem divider_zero (d : Fin 8) : Fin.ofNat 8 d.val = d := by
  apply Fin.ext
  show d.val % 8 = d.val
  omega

/-- The divider stays below 7 in cycles that leave room for another. -/
theorem divider_below (d : Fin 8) (k n : Nat) (hk : k < n) (room : d.val + n < 8) :
    Fin.ofNat 8 (d.val + k) ≠ 7 := by
  intro h
  have hv : (d.val + k) % 8 = 7 := congrArg Fin.val h
  omega

/-- In a restart after its first main edge, with nothing due, silent backup cycles up to a missing edge, in
which no tick comes, move the watch's count and the divider (R9). -/
theorem passCycles_silent (n : Nat) (s : State) (restarting : s.clock = some .restarting)
    (watched : s.startWindow = none) (left : s.missingCycles + n ≤ Config.missingEdgeCycles)
    (room : s.divider.val + n < 8) (running : s.phase = .running) (due : dueEvents s = []) :
    passCycles (List.replicate n .backup) s
      = { s with missingCycles := s.missingCycles + n, divider := Fin.ofNat 8 (s.divider.val + n) } := by
  have unproven : s.restartProven = false := by
    cases h : s.restartProven
    · rfl
    · simp [dueEvents, h] at due
  have run := passCycles_backup
    (fun k => { s with missingCycles := s.missingCycles + k, divider := Fin.ofNat 8 (s.divider.val + k) }) n
    (fun _ => running) (fun _ => by simp [State.tickSource, restarting, ClockState.tickSource])
    (fun k hk => dueEvents_counts s _ _ _ _ due (by simp [State.failoverDue, restarting]) unproven
      (by simp only [State.restartLost, State.missingEdge, Bool.and_eq_false_iff, decide_eq_false_iff_not]
          exact .inr (by omega))
      (by simp [State.windowOver, watched]))
    (fun k hk => divider_below _ k n hk room)
    (fun k hk => by
      simp only [superviseCycle, backupCycle, restarting, watched, countSilence, divider_succ]
      rw [Nat.min_eq_left (by omega), Nat.add_assoc])
  simpa only [Nat.add_zero, divider_zero] using run

/-- In a restart before its first main edge, with nothing due, the last backup cycles of the start window, in
which no tick comes, use it up and move the divider (R12). -/
theorem passCycles_window (n : Nat) (s : State) (restarting : s.clock = some .restarting)
    (window : s.startWindow = some n) (room : s.divider.val + n < 8) (running : s.phase = .running)
    (due : dueEvents s = []) :
    passCycles (List.replicate n .backup) s
      = { s with startWindow := some 0, divider := Fin.ofNat 8 (s.divider.val + n) } := by
  have run := passCycles_backup
    (fun k => { s with startWindow := some (n - k), divider := Fin.ofNat 8 (s.divider.val + k) }) n
    (fun _ => running) (fun _ => by simp [State.tickSource, restarting, ClockState.tickSource])
    (fun k hk => dueEvents_counts s _ _ _ _ due (by simp [State.failoverDue, restarting])
      (by simp [State.restartProven]) (by simp [State.restartLost])
      (by simp [State.windowOver, restarting]; omega))
    (fun k hk => divider_below _ k n hk room)
    (fun k hk => by
      simp only [superviseCycle, backupCycle, restarting, divider_succ]
      rw [show n - k - 1 = n - (k + 1) by omega])
  simpa only [Nat.add_zero, Nat.sub_zero, Nat.sub_self, ← window, divider_zero] using run

/-! ## Clock start -/

/-- A cycle of clock start that is not over is counted by the clock supervisor. -/
theorem runClockStart_cons (o : Oscillator) (rest : List Oscillator) (s : State)
    (going : s.clockStartOver = false) :
    runClockStart (o :: rest) s
      = if (rest.foldl startCycle (superviseCycle o s)).clockStartOver = true then
          clockStart (rest.foldl startCycle (superviseCycle o s))
        else s := by
  simp only [runClockStart, List.foldl_cons, startCycle, going, Bool.false_eq_true, if_false]

/-- Clock start that is over ends, whatever cycles are given. -/
theorem runClockStart_over (cycles : List Oscillator) (s : State) (ended : s.clockStartOver = true) :
    runClockStart cycles s = clockStart s := by
  have h : cycles.foldl startCycle s = s :=
    foldl_keeps (fun t => t = s) _ _ _
      (fun t o _ ht => by subst ht; unfold startCycle; rw [if_pos ended]) rfl
  simp only [runClockStart, h, ended, if_true]

end Sys2Proof.Machine
end

