-- ==== Sys2Proof/Laws/Codes.lean ====
section
/-!
SUPPORT. Reading back what is written in bytes: numbers, codes, flag bytes.
-/

namespace Sys2Proof.Machine

/-! ## Numbers -/

/-- The low bytes of a number are those of its remainder. -/
theorem beBytes_mod (w n : Nat) : beBytes w n = beBytes w (n % 256 ^ w) := by
  induction w generalizing n with
  | zero => rfl
  | succ w ih =>
    have hd : 256 ^ w ∣ 256 ^ (w + 1) := ⟨256, by rw [pow_succ]⟩
    simp only [beBytes]
    congr 1
    · apply BitVec.eq_of_toNat_eq
      simp only [BitVec.toNat_ofNat]
      show n / 256 ^ w % 256 = n % 256 ^ (w + 1) / 256 ^ w % 256
      rw [pow_succ, Nat.mod_mul_right_div_self, Nat.mod_mod]
    · rw [ih n, ih (n % 256 ^ (w + 1)), Nat.mod_mod_of_dvd _ hd]

/-- Reading bytes onto a number already read. -/
theorem beNat_beBytes_onto (w n acc : Nat) (h : n < 256 ^ w) :
    (beBytes w n).foldl (fun acc b => acc * 256 + b.toNat) acc = acc * 256 ^ w + n := by
  induction w generalizing n acc with
  | zero => simp at h; subst h; simp [beBytes]
  | succ w ih =>
    simp only [beBytes, List.foldl_cons]
    rw [beBytes_mod w n, ih _ _ (Nat.mod_lt _ (by positivity))]
    have hb : n / 256 ^ w < 256 := by
      rw [Nat.div_lt_iff_lt_mul (by positivity)]; rw [pow_succ] at h; linarith
    have : (BitVec.ofNat 8 (n / 256 ^ w)).toNat = n / 256 ^ w := by simp; omega
    rw [this, pow_succ]
    have := Nat.div_add_mod n (256 ^ w)
    nlinarith

/-- A number is read back from its bytes. -/
@[simp] theorem beNat_beBytes (w n : Nat) (h : n < 256 ^ w) : beNat (beBytes w n) = n := by
  have := beNat_beBytes_onto w n 0 h
  simp only [Nat.zero_mul, Nat.zero_add] at this
  exact this

@[simp] theorem length_beBytes (w n : Nat) : (beBytes w n).length = w := by
  induction w with
  | zero => rfl
  | succ w ih => simp [beBytes, ih]

/-- A small number is read back from its byte. -/
theorem toNat_byteOf (n : Nat) (h : n < 256) : (byteOf n).toNat = n := by
  simp only [byteOf, BitVec.toNat_ofNat]; omega

/-! ## Codes -/

@[simp] theorem lineOfCode_byteOf (l : LineId) : lineOfCode (byteOf l.val) = some l := by
  revert l; decide
@[simp] theorem inputOfCode_byteOf (i : InputId) : inputOfCode (byteOf i.val) = some i := by
  revert i; decide
@[simp] theorem levelOfCode_levelCode (v : Level) : levelOfCode (levelCode v) = some v := by
  cases v <;> rfl
@[simp] theorem yesNoOfCode_flagCode (b : Bool) : yesNoOfCode (flagCode b) = some b := by
  cases b <;> rfl
@[simp] theorem edgeKindOfCode_code (e : EdgeKind) : edgeKindOfCode (edgeKindCode e) = some e := by
  cases e <;> rfl
@[simp] theorem edgeChoiceOfCode_code (e : EdgeChoice) :
    edgeChoiceOfCode (edgeChoiceCode e) = some e := by cases e <;> rfl
@[simp] theorem maskOfCode_maskCode (m : AttentionMask) : maskOfCode (maskCode m) = some m := by
  cases m <;> rfl

/-- A line parameter parses exactly when it is the one byte of a line. -/
theorem parseLine_none {ps : List Byte} (h : ∀ l : LineId, ps ≠ [byteOf l.val]) :
    parseLine ps = none := by
  unfold parseLine; split
  · rename_i b
    unfold lineOfCode; split
    · rename_i hb
      exact absurd (by simp [byteOf]) (h ⟨b.toNat, hb⟩)
    · rfl
  · rfl

/-! ## Flag bytes -/

/-- The bits of a client flags byte (R143). -/
theorem clientFlags_bits (c : ClientId) (s : State) :
    (clientFlags c s).getLsbD 0 = (s.client c).lost
    ∧ (clientFlags c s).getLsbD 1 = (s.client c).hasGap
    ∧ (clientFlags c s).getLsbD 2 = (s.authority == some c)
    ∧ (clientFlags c s).getLsbD 3 = (s.timeState == .unset)
    ∧ (clientFlags c s).getLsbD 4 = (s.quality == .degraded)
    ∧ (clientFlags c s).getLsbD 5 = (s.supplyState == .hold)
    ∧ (clientFlags c s).getLsbD 6 = false ∧ (clientFlags c s).getLsbD 7 = false := by
  have key : ∀ a b c d e f : Bool,
      let x := flagBit 0 a ||| flagBit 1 b ||| flagBit 2 c ||| flagBit 3 d ||| flagBit 4 e
        ||| flagBit 5 f
      x.getLsbD 0 = a ∧ x.getLsbD 1 = b ∧ x.getLsbD 2 = c ∧ x.getLsbD 3 = d ∧ x.getLsbD 4 = e
        ∧ x.getLsbD 5 = f ∧ x.getLsbD 6 = false ∧ x.getLsbD 7 = false := by decide
  exact key _ _ _ _ _ _

/-- The bits of a port status byte (R151). -/
theorem readyStatusByte_bits (c : ClientId) (s : State) :
    (readyStatusByte c s).getLsbD 7 = (s.client c).request.isNone
    ∧ (readyStatusByte c s).getLsbD 6 = (s.client c).response.isDone
    ∧ (readyStatusByte c s).getLsbD 5 = s.attention c
    ∧ (readyStatusByte c s).getLsbD 4 = (s.client c).marks.collided
    ∧ (readyStatusByte c s).getLsbD 3 = (s.client c).marks.frameErr
    ∧ (readyStatusByte c s).getLsbD 2 = (s.client c).marks.discarded
    ∧ (readyStatusByte c s).getLsbD 1 = false ∧ (readyStatusByte c s).getLsbD 0 = false := by
  have key : ∀ a b c d e f : Bool,
      let x := flagBit 7 a ||| flagBit 6 b ||| flagBit 5 c ||| flagBit 4 d ||| flagBit 3 e
        ||| flagBit 2 f
      x.getLsbD 7 = a ∧ x.getLsbD 6 = b ∧ x.getLsbD 5 = c ∧ x.getLsbD 4 = d ∧ x.getLsbD 3 = e
        ∧ x.getLsbD 2 = f ∧ x.getLsbD 1 = false ∧ x.getLsbD 0 = false := by decide
  exact key _ _ _ _ _ _

/-- A byte is read back from its bits, first bit most significant. -/
theorem byteOfBits_bitsOfByte (b : Byte) :
    byteOfBits [bitOf b 7, bitOf b 6, bitOf b 5, bitOf b 4, bitOf b 3, bitOf b 2, bitOf b 1,
      bitOf b 0] = b := by
  revert b; decide +kernel

end Sys2Proof.Machine
end

