-- ==== Sys2Proof/Laws/Counts.lean ====
section
/-!
SUPPORT. The 48-bit counts: distances, ahead and behind, steps, and late dues.
-/

namespace Sys2Proof.Machine

/-- The distance of a time above a count, on numbers (R6). -/
theorem distance_eq (t c : Count) :
    (t - c).toNat = (t.toNat + 2 ^ 48 - c.toNat) % 2 ^ 48 := by
  rw [BitVec.toNat_sub]; congr 1; omega

/-- A time is ahead exactly when its distance lies below half the range (R6). -/
theorem isAhead_iff (t c : Count) :
    isAhead t c = true ↔ (t.toNat + 2 ^ 48 - c.toNat) % 2 ^ 48 < 2 ^ 47 := by
  simp only [isAhead, distanceAhead, distance_eq, decide_eq_true_eq, Config.halfRange]

/-- A test on the entries of the calendar, slot by slot. -/
theorem any_slots_iff (s : State) (p : Entry → Bool) :
    (s.slots.toList.any fun o => o.any p) = true ↔ ∃ k e, s.slot k = some e ∧ p e = true := by
  simp only [List.any_eq_true, Option.any_eq_true]
  constructor
  · rintro ⟨o, ho, e, he, hp⟩
    obtain ⟨i, hi, rfl⟩ := List.mem_iff_getElem.1 ho
    simp at hi
    exact ⟨⟨i, hi⟩, e, by simpa [State.slot] using he, hp⟩
  · rintro ⟨k, e, he, hp⟩
    exact ⟨s.slots[k.val], by simp, e, he, hp⟩

/-- The dues that a late entry's due has passed are behind the count, and the next one is ahead (R71). -/
theorem missedOccurrences_spec (b : Booking) (r : Repeat) (count : Count) (hr : b.rep = some r)
    (hp : 1 ≤ r.period.toNat) (hb : isBehind b.due count = true) :
    1 ≤ missedOccurrences b count
      ∧ isAhead (b.due + BitVec.ofNat 48 (missedOccurrences b count * r.period.toNat)) count = true
      ∧ ∀ m, m < missedOccurrences b count →
          isBehind (b.due + BitVec.ofNat 48 (m * r.period.toNat)) count = true := by
  have e : missedOccurrences b count
      = max 1 ((distanceAhead count b.due + r.period.toNat - 1) / r.period.toNat) := by
    simp [missedOccurrences, hr]
  rw [e]
  have hP := r.period.isLt
  simp only [isBehind, Bool.not_eq_true', Bool.eq_false_iff, ne_eq, isAhead_iff, distanceAhead,
    distance_eq] at *
  generalize r.period.toNat = P at *
  have h1 := b.due.isLt
  have h2 := count.isLt
  generalize hd : (count.toNat + 2 ^ 48 - b.due.toNat) % 2 ^ 48 = d
  have hd1 : 1 ≤ d ∧ d ≤ 2 ^ 47 := by omega
  have hc : count.toNat = (b.due.toNat + d) % 2 ^ 48 := by omega
  have h0 : 1 ≤ (d + P - 1) / P := by rw [Nat.le_div_iff_mul_le (by omega)]; omega
  rw [max_eq_right h0]
  have k1 : d ≤ (d + P - 1) / P * P := by
    have h3 := Nat.div_add_mod (d + P - 1) P
    have h4 := Nat.mod_lt (d + P - 1) (show 0 < P by omega)
    rw [Nat.mul_comm] at h3
    omega
  have k2 : (d + P - 1) / P * P ≤ d + P - 1 := Nat.div_mul_le_self _ _
  generalize (d + P - 1) / P = k at *
  refine ⟨h0, ?_, ?_⟩
  · rw [BitVec.toNat_add, BitVec.toNat_ofNat]
    generalize k * P = x at *
    omega
  · intro m hm
    have : m * P < d := by
      have h3 : (m + 1) * P ≤ k * P := Nat.mul_le_mul_right _ hm
      have : (m + 1) * P = m * P + P := by ring
      omega
    rw [BitVec.toNat_add, BitVec.toNat_ofNat]
    generalize m * P = x at *
    omega

end Sys2Proof.Machine
end

