-- ==== Sys2Proof/Laws/Ports.lean ====
section
/-!
SUPPORT. What the bits of a four-wire transaction do, said once, and the bytes read back from them.
-/

namespace Sys2Proof.Machine

/-- One bit is received; with the eighth the marks that the status byte carried are cleared, and a first
byte of 00h takes the response frame (R150, R152, R154). -/
theorem fourWireBit_active (b : Bool) (s : State) (t : FourWireTransaction) (h : s.fourWire = .active t) :
    ∃ response, fourWireBit b s
      = let u := { s with fourWire := .active { t with bits := t.bits ++ [b], response := response } }
        if t.bits.length = 7 then clearCarried t.client t.status u else u := by
  by_cases eighth : t.bits.length = 7
  · refine ⟨if byteOfBits (t.bits ++ [b]) = 0 then some (fetchFrame t.client s) else t.response, ?_⟩
    simp only [fourWireBit, h, List.length_append, List.length_singleton, eighth, if_true]
    split <;> rfl
  · refine ⟨t.response, ?_⟩
    simp only [fourWireBit, h, List.length_append, List.length_singleton, eighth, if_false]
    rw [if_neg (by omega)]

/-- Some bits are received; the marks that the status byte carried are cleared if the eighth is among
them (R150, R152). -/
theorem fourWireBits_active (bits : List Bool) : ∀ (s : State) (t : FourWireTransaction),
    s.fourWire = .active t →
    ∃ response, fourWireBits bits s
      = let u := { s with fourWire := .active { t with bits := t.bits ++ bits, response := response } }
        if t.bits.length < 8 ∧ 8 ≤ (t.bits ++ bits).length then clearCarried t.client t.status u
        else u := by
  induction bits with
  | nil =>
    intro s t h
    refine ⟨t.response, ?_⟩
    simp only [List.append_nil]
    rw [if_neg (by omega), ← h]
    rfl
  | cons b bs ih =>
    intro s t h
    obtain ⟨r, first⟩ := fourWireBit_active b s t h
    have step : fourWireBits (b :: bs) s = fourWireBits bs (fourWireBit b s) := rfl
    rw [step, first]
    dsimp only
    by_cases eighth : t.bits.length = 7
    · obtain ⟨r', rest⟩ := ih (clearCarried t.client t.status
        { s with fourWire := .active { t with bits := t.bits ++ [b], response := r } })
        { t with bits := t.bits ++ [b], response := r } rfl
      refine ⟨r', ?_⟩
      rw [if_pos eighth, rest]
      dsimp only
      rw [if_neg (by simp [eighth]), if_pos (by simp only [List.length_append, List.length_cons, eighth]; omega),
        List.append_assoc]
      rfl
    · obtain ⟨r', rest⟩ := ih
        { s with fourWire := .active { t with bits := t.bits ++ [b], response := r } }
        { t with bits := t.bits ++ [b], response := r } rfl
      refine ⟨r', ?_⟩
      rw [if_neg eighth, rest]
      dsimp only
      have all : t.bits ++ [b] ++ bs = t.bits ++ b :: bs := by simp
      have same : (t.bits ++ [b]).length < 8 ↔ t.bits.length < 8 := by
        simp only [List.length_append, List.length_singleton]
        omega
      simp only [all, same]

/-- Whole bytes are read back from their bits, and a part-byte after them is dropped (R149). -/
theorem wholeBytes_bitsOfByte (bytes : List Byte) (part : List Bool) (h : part.length < 8) :
    wholeBytes (bytes.flatMap bitsOfByte ++ part) = bytes := by
  induction bytes with
  | nil =>
    rcases part with _ | ⟨_, _ | ⟨_, _ | ⟨_, _ | ⟨_, _ | ⟨_, _ | ⟨_, _ | ⟨_, _ | ⟨_, rest⟩⟩⟩⟩⟩⟩⟩⟩
    all_goals first
      | rfl
      | (simp only [List.length_cons] at h; omega)
  | cons b bs ih =>
    have bits : (b :: bs).flatMap bitsOfByte ++ part
        = bitOf b 7 :: bitOf b 6 :: bitOf b 5 :: bitOf b 4 :: bitOf b 3 :: bitOf b 2 :: bitOf b 1
          :: bitOf b 0 :: (bs.flatMap bitsOfByte ++ part) := rfl
    rw [bits, wholeBytes, ih, byteOfBits_bitsOfByte]

end Sys2Proof.Machine
end

