-- ==== Sys2Proof/Tests/Slice0.lean ====
section
/-!
SUPPORT. The model's own tests: ill-formed commands, checksums, and for the statements with hypotheses a
concrete state that meets them. Each is about one step on a small state.
-/

namespace Sys2Proof.Machine.Tests

set_option Elab.async false

/-! ## Small states -/

/-- A running device with time SET, no client OPEN and nothing due. -/
def live : State :=
  { State.reset with
    phase := .running, clock := some .main, fourWire := .idle, twoWire := .idle, sampled := true,
    timeState := .set, timebase := 1000000, run := 5000 }

/-- A client OPEN with a period of 1000 ms. -/
def opens (c : ClientId) (s : State) : State :=
  s.setClient c
    { s.client c with
      session := .opened { period := 1000, deadline := s.run + 1000000, mask := .both } }

/-- A request of the tests. -/
def job (c : ClientId) (kind : Byte) (ps : List Byte) : EngineJob :=
  { client := c, frame := { kind := kind, sequence := 7, params := ps }, takenAt := 5000,
    outcome := none }

/-- The engine holds a request. -/
def asks (c : ClientId) (kind : Byte) (ps : List Byte) (s : State) : State :=
  { s with engine := some (job c kind ps) }

/-- A client holds a line with park level LOW. -/
def holds (l : LineId) (c : ClientId) (s : State) : State :=
  s.setLine l { s.line l with lease := some { client := c, park := .low } }

/-- A client waits for a line. -/
def waits (l : LineId) (c : ClientId) (s : State) : State :=
  s.setLine l { s.line l with waiters := (s.line l).waiters ++ [{ client := c, park := .high }] }

/-- An entry of client 0 stands in slot 0, with handle 64. -/
def books (b : Booking) (s : State) : State :=
  { s.setSlot 0 (some { handle := 64, owner := 0, body := b }) with useCounts := s.useCounts.set 0 1 }

/-- An entry on EL2. -/
def entry (due : Count) (a : Action) : Booking :=
  { line := 2, due := due, action := a, rep := none, guard := none, late := .fireLate, strict := false,
    notify := .each, tag := 0x0102 }

/-- Client 0 OPEN, holding EL2. -/
def holder : State := holds 2 0 (opens 0 live)

/-- The state after a command. -/
def after (i : Instr) (s : State) : State :=
  match exec i s with
  | .next t => t
  | .fault _ => s
  | .refused _ => s

/-- What the request held by the engine has yielded after a command. -/
def yields (i : Instr) (s : State) : Option (Status × List Byte) :=
  (after i s).engine.bind EngineJob.outcome

/-! ## Ill-formed commands -/

theorem test_supplyCrossing_checked : (Instr.supplyCrossing 2399999).wellFormed = false
    ∧ (Instr.supplyCrossing 2400000).wellFormed = true := by decide
theorem test_storeCompletion_checked :
    (Instr.storeCompletion (List.replicate 31 0)).wellFormed = false
    ∧ (Instr.storeCompletion (List.replicate 32 0)).wellFormed = true := by decide
theorem test_powerReset_checked : (Instr.powerReset 1199999).wellFormed = false
    ∧ (Instr.powerReset 1200000).wellFormed = true := by decide
theorem test_supplyCollapse_checked : (Instr.supplyCollapse 2400000).wellFormed = false
    ∧ (Instr.supplyCollapse 2399999).wellFormed = true := by decide
theorem test_pinReset_checked : (Instr.pinReset 15).wellFormed = false
    ∧ (Instr.pinReset 16).wellFormed = true := by decide
theorem test_startSequence_checked : (Instr.startSequence 2500000 .high).wellFormed = false
    ∧ (Instr.startSequence 2500001 .low).wellFormed = false
    ∧ (Instr.startSequence 2500001 .high).wellFormed = true := by decide
theorem test_statusByteSentWhole_checked : (Instr.statusByteSentWhole 0).wellFormed = false
    ∧ (Instr.statusByteSentWhole 1).wellFormed = true := by decide
theorem test_supplyFallingBelow1V2_checked : (Instr.supplyFallingBelow1V2 1200000).wellFormed = false
    ∧ (Instr.supplyFallingBelow1V2 1199999).wellFormed = true := by decide

/-! ## Bytes -/

/-- The check values of R180. -/
theorem test_checksums :
    crc8 [0x31, 0x32, 0x33, 0x34, 0x35, 0x36, 0x37, 0x38, 0x39] = 0xF4
    ∧ crc16 [0x31, 0x32, 0x33, 0x34, 0x35, 0x36, 0x37, 0x38, 0x39] = 0x29B1 := by decide +kernel

/-- The frame of a HEARTBEAT with sequence 5, and the same with a wrong checksum (12.2). -/
theorem test_heartbeat_frame :
    parseFrame [0x12, 0x05, 0x00, 0x35] = some { kind := 0x12, sequence := 0x05, params := [] }
    ∧ parseFrame [0x12, 0x05, 0x00, 0x34] = none := by decide +kernel

/-- No word spells a command. -/
theorem test_no_words : decodeTableWord 16 0x1234 = none := rfl

/-! ## The step -/

theorem test_step_front :
    step { live with pending := [.failover, .holdEntry] }
      = exec .failover { live with pending := [.holdEntry] } := rfl

/-- On the backup oscillator: seven cycles after a tick the divider is 7 and the counts stand; the eighth is
the tick (R1). -/
theorem test_empty_queue_ticks :
    let s (d : Fin 8) := { live with clock := some .backup, divider := d }
    (idle (s 6)).divider = 7 ∧ (idle (s 6)).run = 5000
    ∧ (idle (s 7)).divider = 0 ∧ (idle (s 7)).run = 5001
    ∧ dueEvents (s 7) = [] ∧ (s 7).pending = [] ∧ (s 7).clock ≠ none
    ∧ idle State.reset = State.reset ∧ State.reset.pending = [] := by decide +kernel

/-- From reset, the commands of the start sequence bring the device to ports ready; here all but one of the
good main cycles have been counted before the last command. -/
theorem test_start_from_reset :
    let s1 := after (.startSequence 3300000 .high) State.reset
    let s2 := after .optionLoad s1
    let s3 := after (.clockStart [.main]) { s2 with proving := some ⟨80000, true, 16383⟩ }
    s1.phase = .beforeOptionLoad ∧ s2.phase = .beforeClockStart
      ∧ s2.proving = some ⟨80000, false, 0⟩ ∧ s3.phase = .running
      ∧ s3.clock = some .main ∧ s3.lastReset = .power ∧ s3.fourWire = .idle := by decide +kernel

/-! ## Meeting the hypotheses of the statements -/

/-- A device at the last cycle of a tick, in a clock state. -/
def ticking (c : ClockState) : State := { live with clock := some c, divider := 7 }

/-- Levels for a tick. -/
def lows : PinSample := { inputs := Vector.replicate 4 .low, sync := .low }

/-- A tick in each clock state, with the counts of the clock supervisor, at both ends of the timebase count. -/
theorem test_witness_tick :
    let restart (w : Option Nat) := { ticking .restarting with startWindow := w, missingCycles := 2 }
    (ticking .main).phase = .running ∧ dueEvents (ticking .main) = [] ∧ (ticking .main).divider = 7
    ∧ dueEvents { ticking .main with timebase := 281474976710655 } = []
    ∧ dueEvents { ticking .main with sampled := false } = []
    ∧ dueEvents (restart none) = [] ∧ dueEvents (restart (some 9)) = []
    ∧ (after (.tick [.main] lows) { ticking .main with timebase := 281474976710655 }).timebase = 0
    ∧ (after (.tick [.main] lows) { ticking .main with missingCycles := 3 }).missingCycles = 0
    ∧ (after (.tick [.backup] lows) (ticking .backup)).run = 5001
    ∧ (after (.tick [.backup] lows) (restart none)).missingCycles = 3
    ∧ (after (.tick [.backup] lows) (restart (some 9))).startWindow = some 8
    ∧ State.reset.phase ≠ .running := by
  decide +kernel

/-- The hold filter at a tick: begun, kept and dropped, in NORMAL at 2.95 V and in HOLD at 3.03 V. -/
theorem test_witness_tick_supply :
    let s (x : SupplyState) (v : Nat) (f : Option Count) :=
      { ticking .main with supplyState := x, supplyUv := v, holdFilter := f }
    let filter (t : State) := (after (.tick [.main] lows) t).holdFilter
    dueEvents (s .normal 2949999 none) = [] ∧ dueEvents (s .hold 3030001 (some 4990)) = []
    ∧ filter (s .normal 2949999 none) = some 5001 ∧ filter (s .normal 2949999 (some 4990)) = some 4990
    ∧ filter (s .normal 2950000 (some 4990)) = none
    ∧ filter (s .hold 3030001 none) = some 5001 ∧ filter (s .hold 3030000 (some 4990)) = none := by
  decide +kernel

/-- A stretch with a cycle before the tick: of the tick source, and of the other oscillator. -/
theorem test_witness_stretch :
    let s := { live with divider := 6 }
    dueEvents s = [] ∧ s.clock = some .main
    ∧ (after (.tick [.main, .main] lows) s).run = 5001
    ∧ (after (.tick [.backup, .main, .main, .backup] lows) s).missingCycles = 1
    ∧ (after (.tick [.main] lows) s).divider = 6
    ∧ (after (.tick [.main] lows) { s with clock := some .restarting }).restartProgress = 0 := by
  decide +kernel

/-- First main edge and a good cycle of a restart, within a stretch. -/
theorem test_witness_restart_cycles :
    let s (w : Option Nat) := { ticking .restarting with startWindow := w, restartProgress := 5, missingCycles := 3 }
    dueEvents (s none) = [] ∧ dueEvents (s (some 9)) = []
    ∧ (after (.tick [.main, .backup] lows) (s none)).restartProgress = 6
    ∧ (after (.tick [.main, .backup] lows) (s none)).missingCycles = 1
    ∧ (after (.tick [.main, .backup] lows) (s (some 9))).restartProgress = 0
    ∧ (after (.tick [.main, .backup] lows) (s (some 9))).startWindow = none := by
  decide +kernel

/-- A tick whose IN0 differs with no change pending, and one whose change is pending. -/
theorem test_witness_samples :
    let s := (ticking .main).setInput 1 { level := .low, pending := some ⟨4999, 0, .unset, .nominal⟩, sequence := 0 }
    dueEvents s = [] ∧ (s.input 0).level = .low ∧ (s.input 0).pending = none
      ∧ (s.input 1).pending ≠ none ∧ s.sync.pending = none
      ∧ dueEvents { s with sync := { level := .low, pending := some 4999 } } = []
      ∧ ((after (.tick [.main] ⟨#v[.high, .high, .low, .low], .high⟩) s).input 0).pending
          = some ⟨5001, 1000001, .set, .nominal⟩ := by decide +kernel

/-- An input whose filter of 4 ticks has just run, with client 0 subscribed to its rises. -/
def edgy (latched : Count) : State :=
  (opens 0 live).setInput 0 { level := .low, pending := some ⟨latched, 77, .set, .nominal⟩, sequence := 65535 }

theorem test_witness_acceptedEdge :
    ((edgy 4996).input 0).pending = some ⟨4996, 77, .set, .nominal⟩
    ∧ (edgy 4996).filterTicks 0 ≤ distanceAhead (edgy 4996).run 4996
    ∧ (∀ latch ∈ ((edgy 4997).input 0).pending,
        distanceAhead (edgy 4997).run latch.run < (edgy 4997).filterTicks 0)
    ∧ ((after (.acceptedEdge 0) (edgy 4996)).input 0) = { level := .high, pending := none, sequence := 0 } := by
  decide +kernel

/-- Capture queues at the three places of R108. -/
theorem test_witness_placeCapture :
    let r : CaptureRecord := .real 0 .rise 1 1 false false
    (List.replicate 14 r).length < 15
    ∧ 15 ≤ (List.replicate 14 r ++ [CaptureRecord.gap 65535]).length
    ∧ placeCapture r (List.replicate 14 r ++ [.gap 65535]) = List.replicate 14 r ++ [.gap 65535]
    ∧ (List.replicate 15 r).length = 15 ∧ newestIsGap (List.replicate 15 r) = false := by
  decide +kernel

/-- SYNC confirmed, with a load armed for the rising edge by client 0. -/
def loading (value : Count) : State :=
  { opens 0 live with
    authority := some 0, armed := some { value := value, edge := .rise },
    sync := { level := .low, pending := some 4996 } }

theorem test_witness_syncEdge :
    (loading 3000000).options.syncFilter ≤ distanceAhead (loading 3000000).run 4996
    ∧ stepAllowed (3000000 + ((loading 3000000).run - 4996)) (loading 3000000) = true
    ∧ stepAllowed (4295967292 + ((loading 4295967292).run - 4996)) (loading 4295967292) = false
    ∧ (after .syncEdge (loading 3000000)).timebase = 3000004
    ∧ stepOf 1000000 3000004 = (.forward, 2000004)
    ∧ (loading 3000000).isOpen 0 = true ∧ ((loading 3000000).client 0).notices = []
    ∧ (opens 1 (loading 3000000)).isOpen 1 = true
    ∧ (((after .syncEdge (loading 3000000)).client 0).notices.map (·.kind)) = [.sync, .shifted]
    ∧ stepOf 1000000 (500000 + ((loading 500000).run - 4996)) = (.backward, 499996)
    ∧ (after .syncEdge (loading 500000)).timebase = 500004
    ∧ (after .syncEdge { loading 3000000 with armed := none }).timebase = 1000000
    ∧ (loading 9).sync.pending = some 4996 ∧ distanceAhead 4999 4996 < (loading 9).options.syncFilter := by
  decide +kernel

theorem test_witness_step :
    stepOf 5 5 = (.none, 0) ∧ stepOf 281474976710655 0 = (.forward, 1)
    ∧ stepOf 0 140737488355327 = (.forward, 140737488355327)
    ∧ stepOf 0 140737488355328 = (.backward, 140737488355328)
    ∧ stepAllowed (1000000 - 1099511627776 + 50) { books (entry 1000050 .setHigh) holder with timeState := .unset }
      = true
    ∧ stepAllowed (1000000 - 1099511627776 + 49) { books (entry 1000050 .setHigh) holder with timeState := .unset }
      = false
    ∧ stepAllowed (1000000 + 140737488355328) { books (entry 1000050 .setHigh) holder with timeState := .unset }
      = false := by decide +kernel

/-- Entries due at the count, for each action, and guarded both ways. -/
theorem test_witness_occurrence :
    let due (a : Action) := books (entry 1000000 a) holder
    let guarded (v : PinLevel) := books { entry 1000000 .setHigh with guard := some ⟨3, v⟩ } holder
    ((due .setHigh).slot 0).isSome = true ∧ (due .setHigh).supplyState = .normal
    ∧ ((after (.occurrence 0) (due .setHigh)).line 2).level = .high
    ∧ ((after (.occurrence 0) (due .setLow)).line 2).level = .low
    ∧ ((after (.occurrence 0) (due .toggle)).line 2).level = .float
    ∧ ((after (.occurrence 0) (due .release)).line 2).level = .float
    ∧ ((after (.occurrence 0) (due (.pulse .high 200))).line 2).pulse = some ⟨5200, .float⟩
    ∧ ((guarded .low).input 3).level = .low ∧ ((guarded .high).input 3).level ≠ .high
    ∧ ((after (.occurrence 0) (guarded .high)).line 2).level = .float
    ∧ ((after (.occurrence 0) (books (entry 1000001 .setHigh) holder)).line 2).level = .float := by
  decide +kernel

/-- Entries due at the count with each kind of repeat, and each notify. -/
theorem test_witness_advance :
    let due (r : Option Repeat) (n : Notify) := books { entry 1000000 .setHigh with rep := r, notify := n } holder
    ((after (.occurrence 0) (due none .last)).client 0).notices
      = [⟨.fired, 64, .fired .done (.times 0) true, 0x0102, 5000, 1⟩]
    ∧ (after (.occurrence 0) (due (some ⟨100, .times 1⟩) .none)).slot 0 = none
    ∧ ((after (.occurrence 0) (due (some ⟨100, .times 2⟩) .last)).slot 0).isSome = true
    ∧ ((after (.occurrence 0) (due (some ⟨100, .times 2⟩) .last)).client 0).notices = []
    ∧ ((after (.occurrence 0) (due (some ⟨100, .unlimited⟩) .each)).slot 0).map (·.body.due)
      = some 1000100 := by decide +kernel

/-- Late entries with each policy; 3 occurrences are missed at period 100. -/
def late (policy : LatePolicy) (r : Option Repeat) : State :=
  books { entry 999750 .setHigh with late := policy, rep := r } holder

theorem test_witness_late :
    isBehind 999750 1000000 = true
    ∧ missedOccurrences { entry 999750 .setHigh with rep := some ⟨100, .times 3⟩ } 1000000 = 3
    ∧ (resolveEntry 0 (late .skip (some ⟨100, .times 3⟩))).slot 0 = none
    ∧ ((resolveEntry 0 (late .skip (some ⟨100, .times 4⟩))).slot 0).map (·.body.due) = some 1000050
    ∧ ((resolveEntry 0 (late .fireLate none)).line 2).level = .high
    ∧ guardMet { entry 999750 .setHigh with guard := some ⟨0, .high⟩ } holder = false
    ∧ ((resolveEntry 0 (late .withdraw none)).client 0).notices
      = [⟨.withdrawn, 64, .withdrawn .late, 0x0102, 5000, 1⟩] := by decide +kernel

/-- Repeating late entries: FIRE_LATE with the guard met and unmet, UNLIMITED under SKIP, and notify. -/
theorem test_witness_late_repeats :
    let s (p : LatePolicy) (r : RepeatCount) (g : Option Guard) (n : Notify) :=
      books { entry 999750 .setHigh with late := p, rep := some ⟨100, r⟩, guard := g, notify := n } holder
    let slot (t : State) := ((resolveEntry 0 t).slot 0).map fun e => (e.body.due, e.body.rep.map (·.count))
    let posted (t : State) := ((resolveEntry 0 t).client 0).notices.map (·.detail)
    slot (s .fireLate (.times 4) none .each) = some (1000050, some (.times 1))
    ∧ slot (s .fireLate (.times 3) none .each) = none
    ∧ slot (s .fireLate .unlimited (some ⟨0, .high⟩) .each) = some (1000050, some .unlimited)
    ∧ slot (s .skip .unlimited none .each) = some (1000050, some .unlimited)
    ∧ posted (s .fireLate (.times 4) none .each) = [.fired .lateFired (.times 1) false]
    ∧ posted (s .fireLate .unlimited (some ⟨0, .high⟩) .each) = [.fired .guardSkipped .unlimited false]
    ∧ posted (s .skip .unlimited none .each) = [.fired .lateSkipped .unlimited false]
    ∧ posted (s .skip (.times 3) none .last) = [.fired .lateSkipped (.times 0) true]
    ∧ posted (s .skip (.times 4) none .last) = [] ∧ posted (s .withdraw (.times 4) none .none) = []
    ∧ posted (s .skip (.times 3) none .none) = [] := by decide +kernel

theorem late_named : EntriesNamed (late .skip (some ⟨100, .times 4⟩)) where
  handle := by
    show ∀ k, ∀ e ∈ (late .skip (some ⟨100, .times 4⟩)).slot k,
      e.handle = handleOf k ((late .skip (some ⟨100, .times 4⟩)).useCount k)
        ∧ (late .skip (some ⟨100, .times 4⟩)).useCount k ≠ 0
    decide +kernel
  repeats := by
    intro k e r he hr
    have h : ∀ k, ∀ e ∈ (late .skip (some ⟨100, .times 4⟩)).slot k,
      e.body.rep = some ⟨100, .times 4⟩ := by decide +kernel
    have := h k e he
    rw [this] at hr
    cases hr
    exact ⟨by decide, fun n hn => by cases hn; decide⟩
  width := by
    intro k e v w he ha
    have h : ∀ k, ∀ e ∈ (late .skip (some ⟨100, .times 4⟩)).slot k, e.body.action = .setHigh := by
      decide +kernel
    rw [h k e he] at ha
    cases ha

/-- A forward load with the calendar of client 0 not empty. -/
theorem test_witness_syncEdge_late :
    EntriesNamed { late .skip (some ⟨100, .times 4⟩) with
      authority := some 0, armed := some { value := 3000000, edge := .rise },
      sync := { level := .low, pending := some 4996 } } :=
  ⟨late_named.handle, late_named.repeats, late_named.width⟩

/-- A state with a late entry, outside a hold, whose resolution leaves the entry ahead. -/
theorem test_witness_resolveLate :
    EntriesNamed (late .skip (some ⟨100, .times 4⟩))
    ∧ (late .skip (some ⟨100, .times 4⟩)).supplyState = .normal :=
  ⟨late_named, rfl⟩

/-- Two late entries, the more behind in the higher slot, one that the resolution brings to the count, and one
ahead: the order of the notices, and what stays. -/
def lateTwo : State :=
  let body := { entry 999800 .setHigh with late := .skip, rep := some ⟨200, .times 2⟩ }
  let s := books body holder
  (s.setSlot 1 (some { handle := 65, owner := 0, body := entry 999700 .setLow })).setSlot 2
    (some { handle := 66, owner := 0, body := entry 1000001 .toggle })

theorem test_witness_resolveLate_order :
    let t := resolveLate lateTwo
    (t.client 0).notices.map (fun n => (n.subject, n.detail))
      = [(65, .fired .lateFired (.times 0) true), (64, .fired .done (.times 0) true)]
    ∧ t.slot 0 = none ∧ t.slot 1 = none ∧ t.slot 2 = lateTwo.slot 2 ∧ (t.line 2).level = .high
    ∧ t.line 3 = lateTwo.line 3 ∧ t.client 1 = lateTwo.client 1 := by decide +kernel

/-- The same resolution after a forward step and at hold exit, behind SHIFTED and SUPPLY. -/
theorem test_witness_resolveLate_commands :
    let t := { lateTwo with authority := some 0, timebase := 999600 }
    let kinds (t : State) := (t.client 0).notices.map fun n => (n.kind, n.subject)
    stepOf 999600 1000000 = (.forward, 400)
    ∧ kinds (after .setTime (asks 0 0x53 (beBytes 6 1000000) t)) = [(.shifted, 0), (.fired, 65), (.fired, 64)]
    ∧ kinds (after .holdExit { lateTwo with supplyState := .hold, holdFilter := some 4980 })
        = [(.supply, 0), (.fired, 65), (.fired, 64)] := by decide +kernel

/-- A pulse at its end time, one a tick before it, and a hold in which the lines rest. -/
theorem test_witness_pulseEnd :
    let s := holder.setLine 2 { holder.line 2 with level := .high, pulse := some ⟨5000, .low⟩ }
    ((s.line 2).pulse = some ⟨5000, .low⟩ ∧ (5000 : Count) = s.run)
    ∧ ((after (.pulseEnd 2) s).line 2).level = .low
    ∧ ((after (.pulseEnd 2) { s with run := 4999 }).line 2).level = .high
    ∧ (s.line 3).pulse = none := by decide +kernel

/-- Client 0 at its deadline, and one tick before it. -/
theorem test_witness_expiry :
    let s := { holder with run := 1005000 }
    (s.client 0).session = .opened ⟨1000, 1005000, .both⟩
    ∧ (after (.keepaliveExpiry 0) s).isOpen 0 = false
    ∧ ((after (.keepaliveExpiry 0) s).line 2).level = .float
    ∧ ((after (.keepaliveExpiry 0) (waits 2 2 (opens 2 s))).client 2).notices
      = [⟨.granted, 2, .granted, 0, 1005000, 1⟩]
    ∧ (after (.keepaliveExpiry 0) { s with run := 1004999 }).isOpen 0 = true
    ∧ s.isOpen 1 = false := by decide +kernel

theorem test_witness_close :
    Executing (asks 0 0x11 [] holder) (job 0 0x11 []) 0x11 []
    ∧ (asks 0 0x11 [] holder).isOpen 0 = true
    ∧ (after .closeSession (asks 0 0x11 [] holder)).engine
      = some { job 0 0x11 [] with outcome := some (.ok, [1, 0, 0, 0]) } := by decide +kernel

/-- OPEN: a client that is not enabled; periods 9, 10, 60000 and 60001; masks 3 and 4. -/
theorem test_witness_open :
    let off := { live with options := { live.options with enabled := #v[true, false, true, true] } }
    off.isEnabled 1 = false ∧ live.isEnabled 1 = true
    ∧ beBytes 2 10 ++ [maskCode .both] = [0x00, 0x0A, 0x03]
    ∧ Executing (asks 1 0x10 [0x00, 0x0A, 0x03] live) (job 1 0x10 [0x00, 0x0A, 0x03]) 0x10
        (beBytes 2 10 ++ [maskCode .both])
    ∧ (after .openSession (asks 1 0x10 (beBytes 2 10 ++ [0x03]) live)).isOpen 1 = true
    ∧ (after .openSession (asks 1 0x10 (beBytes 2 60000 ++ [0x00]) live)).isOpen 1 = true
    ∧ (after .openSession (asks 1 0x10 (beBytes 2 9 ++ [0x03]) live)).isOpen 1 = false
    ∧ (after .openSession (asks 1 0x10 (beBytes 2 60001 ++ [0x03]) live)).isOpen 1 = false
    ∧ (after .openSession (asks 1 0x10 (beBytes 2 10 ++ [0x04]) live)).isOpen 1 = false
    ∧ (after .openSession (asks 1 0x10 (beBytes 2 10 ++ [0x03]) off)).isOpen 1 = false := by
  decide +kernel

theorem test_witness_sessionRequests :
    Executing (asks 0 0x12 [] holder) (job 0 0x12 []) 0x12 []
    ∧ (holder.client 0).session = .opened ⟨1000, 1005000, .both⟩
    ∧ Executing (asks 1 0x14 [] holder) (job 1 0x14 []) 0x14 []
    ∧ Executing (asks 0 0x50 [] holder) (job 0 0x50 []) 0x50 []
    ∧ Executing (asks 0 0x13 [0x00] holder) (job 0 0x13 [0x00]) 0x13 [maskCode .none]
    ∧ (after .heartbeat (asks 0 0x12 [] holder)).engine
      = some { job 0 0x12 [] with outcome := some (.ok, [0, 0, 0x00, 0x0F, 0x42, 0x40]) } := by
  decide +kernel

/-- Frames waiting for client 3 first and for client 0, with the pointer at client 3 and at client 0. -/
theorem test_witness_take :
    let f : Frame := { kind := 0x14, sequence := 1, params := [] }
    let r : Response := { status := .ok, result := [], flags := 0 }
    let s := live.setClient 0 { live.client 0 with request := some f }
    let t := live.setClient 3 { live.client 3 with request := some f, response := .done 1 0x14 r }
    s.engine = none ∧ s.phase = .running ∧ s.pointer + 1 + Fin.ofNat 4 0 = 0
      ∧ (s.client 0).request = some f ∧ (s.client 0).response = .empty
      ∧ (after .requestTake s).pointer = 0 ∧ (after .requestTake s).engine.isSome = true
      ∧ t.pointer + 1 + Fin.ofNat 4 3 = 3
      ∧ (∀ m, m < 3 → (t.client (t.pointer + 1 + Fin.ofNat 4 m)).request = none)
      ∧ (t.client 3).response = .done f.sequence f.kind r
      ∧ (after .requestTake t).engine = none
      ∧ (after .requestTake { t with choice := some 3 }).pointer = 3
      ∧ (after .requestTake t).choice = none
      ∧ (∀ c, (live.client c).request = none) ∧ (asks 0 0x14 [] live).engine ≠ none := by
  decide +kernel

/-- A frame placed after the engine became free does not come before the one it chose then (R135). -/
theorem test_witness_choice :
    let f : Frame := { kind := 0x14, sequence := 1, params := [] }
    let s := { live.setClient 3 { live.client 3 with request := some f } with
      pointer := 1, engine := some { job 1 0x14 [] with outcome := some (.ok, [1]) } }
    let t := after .requestCompletion s
    t.choice = some 3
    ∧ (after .requestTake (t.setClient 2 { t.client 2 with request := some f })).pointer = 3
    ∧ FirstWaiting s (some 3) ∧ FirstWaiting live none :=
  ⟨by decide +kernel, by decide +kernel, .inr ⟨1, by decide +kernel⟩, .inl (by decide +kernel)⟩

theorem test_witness_completion :
    let j := { job 0 0x14 [] with outcome := some (.ok, [1]) }
    let s := { holder with engine := some j }
    j.outcome = some (.ok, [1]) ∧ (after .requestCompletion s).engine = none
      ∧ ((after .requestCompletion s).client 0).response = .done 7 0x14 ⟨.ok, [1], 0x00⟩
      ∧ after .requestCompletion (asks 0 0x14 [] live) = asks 0 0x14 [] live := by decide +kernel

theorem test_witness_commonChecks :
    Executing (asks 0 0x00 [1] live) (job 0 0x00 [1]) 0x00 [1]
    ∧ Executing (asks 0 0x31 [] live) (job 0 0x31 []) 0x31 [] ∧ live.isOpen 0 = false
    ∧ (asks 0 0x31 [] live).engine = some (job 0 0x31 []) ∧ (job 0 0x31 []).frame.kind ≠ 0x61
    ∧ live.engine = none
    ∧ Executing (asks 0 0x60 [0] holder) (job 0 0x60 [0]) 0x60 [0]
    ∧ (asks 0 0x60 [0] holder).isOpen 0 = true ∧ ([0] : List Byte) ≠ [] := by decide +kernel

/-- Parameters that no valid request of the kind has, at the edges of each form. -/
theorem test_witness_invalid :
    (∀ r ∈ ([(.release, 0x21, [8]), (.cancel, 0x32, [0]), (.setAttention, 0x13, [4]),
        (.acquire, 0x20, [3, 0, 2]), (.schedule, 0x30, []), (.subscribe, 0x40, [4, 1]),
        (.unsubscribe, 0x41, [4]), (.setTime, 0x53, [0, 0, 0, 0, 0]),
        (.shift, 0x54, [1, 0, 0, 0, 0]), (.armSync, 0x55, [0, 0, 0, 0, 0, 9, 3]),
        (.storeOptions, 0x61, [])] : List (Instr × Byte × List Byte)),
      yields r.1 (asks 0 r.2.1 r.2.2 holder) = some (.invalid, []))
    ∧ yields .info (asks 1 0x14 [0] live) = some (.invalid, [])
    ∧ yields .openSession (asks 1 0x10 [0, 10] live) = some (.invalid, [])
    ∧ yields .batch (asks 0 0x31 [0] holder) = some (.invalid, [0]) := by decide +kernel

/-- The parameters of those requests that the forms of the statement compare with a list of values. -/
theorem test_witness_forms :
    (∀ mask : AttentionMask, ([4] : List Byte) ≠ [maskCode mask])
    ∧ (∀ (l : LineId) (park : Level) (wait : Bool),
        ([3, 0, 2] : List Byte) ≠ [byteOf l.val, levelCode park, flagCode wait])
    ∧ (∀ b, BookingInRange b → ([] : List Byte) ≠ bookingBytes b)
    ∧ (∀ ms : List (List Byte), 1 ≤ ms.length → ([] : List Byte) ≠ byteOf ms.length :: ms.flatten)
    ∧ (∀ (i : InputId) (choice : EdgeChoice), ([4, 1] : List Byte) ≠ [byteOf i.val, edgeChoiceCode choice])
    ∧ (∀ m : BitVec 32, ([] : List Byte) ≠ [directionCode .forward] ++ beBytes 4 m.toNat)
    ∧ (∀ (value : Count) (edge : EdgeKind), ([] : List Byte) ≠ beBytes 6 value.toNat ++ [edgeKindCode edge])
    ∧ ∀ o : Options, ([] : List Byte) ≠ imageBytes o := by
  refine ⟨?_, ?_, ?_, ?_, ?_, ?_, ?_, ?_⟩
  · intro mask; cases mask <;> decide
  · intro l park wait h
    have : flagCode wait = 2 := by simpa using (List.cons.inj (List.cons.inj (List.cons.inj h).2).2).1.symm
    cases wait <;> exact absurd this (by decide)
  · intro b _; simp [bookingBytes]
  · intro ms _; simp
  · intro i choice h
    have : byteOf i.val = 4 := (List.cons.inj h).1.symm
    clear h
    revert this
    revert i
    decide
  · intro m; simp
  · intro value edge; simp
  · intro o; simp [imageBytes]

theorem test_witness_pin :
    let s (v : Level) (m : DriveMode) := { live.setLine 0 { live.line 0 with level := v } with
      options := { live.options with drive := Vector.replicate 8 m } }
    (s .high .openDrain).pin 0 = .notDriven ∧ (s .high .pushPull).pin 0 = .drivenHigh
    ∧ (s .low .openDrain).pin 0 = .drivenLow ∧ (s .float .pushPull).pin 0 = .notDriven
    ∧ State.reset.phase = .heldInReset := by decide +kernel

/-- Client 0 holds EL2, clients 1 and 2 are OPEN, and client 2 waits for EL2. -/
def shared : State := waits 2 2 (opens 2 (opens 1 holder))

theorem shared_owned : Owned shared where
  authority := by decide +kernel
  armed := by decide +kernel
  holders := by
    show ∀ l, ∀ lease ∈ (shared.line l).lease, shared.isOpen lease.client = true
    decide +kernel
  waiters := by decide +kernel
  waitersOnHeld := by decide +kernel
  distinct := by decide +kernel
  atMostThree := by decide +kernel
  holderNotWaiting := by decide +kernel
  entries := by
    show ∀ k, ∀ e ∈ shared.slot k, (shared.line e.body.line).heldBy e.owner = true
    decide +kernel
  subscriptions := by decide +kernel
  queues := by decide +kernel

/-- ACQUIRE of a FREE line, by the holder, by a waiter, and by a third client without and with wait. -/
theorem test_witness_acquire :
    Owned shared ∧ Executing (asks 1 0x20 [3, 0, 1] shared) (job 1 0x20 [3, 0, 1]) 0x20
        [byteOf (3 : LineId).val, levelCode .low, flagCode true]
    ∧ (shared.line 3).lease = none ∧ (shared.line 2).lease = some ⟨0, .low⟩
    ∧ (shared.line 2).waiters = [] ++ { client := 2, park := .high } :: []
    ∧ (shared.line 2).awaitedBy 1 = false
    ∧ yields .acquire (asks 0 0x20 [2, 0, 1] shared) = some (.already, [0, 0])
    ∧ yields .acquire (asks 2 0x20 [2, 0, 1] shared) = some (.already, [0, 1])
    ∧ yields .acquire (asks 1 0x20 [2, 0, 0] shared) = some (.held, [0, 0])
    ∧ yields .acquire (asks 1 0x20 [2, 0, 1] shared) = some (.queued, [0, 2]) :=
  ⟨shared_owned, by decide +kernel⟩

/-- RELEASE by the holder with and without a waiter, and by another client. -/
theorem test_witness_release :
    Executing (asks 0 0x21 [2] shared) (job 0 0x21 [2]) 0x21 [byteOf (2 : LineId).val]
    ∧ (asks 0 0x21 [2] shared).isOpen 0 = true
    ∧ (shared.line 2).heldBy 0 = true ∧ (shared.line 2).heldBy 1 = false
    ∧ ((after .release (asks 0 0x21 [2] shared)).line 2).holder = some 2
    ∧ ((after .release (asks 0 0x21 [2] holder)).line 2).holder = none := by decide +kernel

theorem test_witness_leaveQueue :
    Executing (asks 2 0x22 [2] shared) (job 2 0x22 [2]) 0x22 [byteOf (2 : LineId).val]
    ∧ shared.isOpen 2 = true
    ∧ (shared.line 2).waiters = [] ++ { client := 2, park := .high } :: []
    ∧ ((after .leaveQueue (asks 2 0x22 [2] shared)).line 2).waiters = []
    ∧ (∀ w ∈ (shared.line 2).waiters, w.client ≠ 1)
    ∧ (shared.line 2).heldBy 0 = true ∧ live.isOpen 2 = false
    ∧ (∀ l : LineId, ([8] : List Byte) ≠ [byteOf l.val]) := by decide +kernel

/-- DRIVE by the holder, in a hold, by another client, and out of range at 8 and at 3. -/
theorem test_witness_drive :
    Executing (asks 0 0x23 [2, 2] holder) (job 0 0x23 [2, 2]) 0x23
        [byteOf (2 : LineId).val, levelCode .float]
    ∧ (holder.line 2).heldBy 0 = true ∧ holder.supplyState = .normal
    ∧ ((after .drive (asks 0 0x23 [2, 1] holder)).line 2).level = .high
    ∧ yields .drive (asks 0 0x23 [2, 1] { holder with supplyState := .hold }) = some (.hold, [])
    ∧ (holder.line 3).heldBy 0 = false
    ∧ yields .drive (asks 0 0x23 [8, 1] holder) = some (.invalid, [])
    ∧ yields .drive (asks 0 0x23 [2, 3] holder) = some (.invalid, [])
    ∧ live.isOpen 0 = false := by decide +kernel

/-- An entry of client 0 on EL2, 50 ticks ahead. -/
def booked : State := books (entry 1000050 .setHigh) holder

theorem test_witness_records :
    Executing (asks 0 0x24 [2] shared) (job 0 0x24 [2]) 0x24 [byteOf (2 : LineId).val]
    ∧ yields .lineStatus (asks 0 0x24 [2] shared) = some (.ok, [1, 0, 2, 0, 0, 0, 1, 2, 0xFF, 0xFF])
    ∧ Executing (asks 0 0x34 [0, 64] booked) (job 0 0x34 [0, 64]) 0x34 (beBytes 2 (64 : Handle).toNat)
    ∧ slotOf 64 = 0
    ∧ yields .queryEntry (asks 0 0x34 [0, 65] booked) = some (.notFound, [])
    ∧ Executing (asks 0 0x60 [] holder) (job 0 0x60 []) 0x60 [] ∧ holder.store = none := by
  decide +kernel

/-- SCHEDULE of a SET_HIGH on EL2 by client 0. -/
def scheduling (due : Count) (s : State) : Option (Status × List Byte) :=
  yields .schedule (asks 0 0x30 (bookingBytes (entry due .setHigh)) s)

theorem test_witness_schedule :
    Executing (asks 0 0x30 (bookingBytes (entry 1000050 .setHigh)) holder)
        (job 0 0x30 (bookingBytes (entry 1000050 .setHigh))) 0x30
        (bookingBytes (entry 1000050 .setHigh))
    ∧ parseBooking (bookingBytes (entry 1000050 .setHigh)) = some (entry 1000050 .setHigh)
    ∧ parseBooking [] = none ∧ holder.isOpen 0 = true ∧ (holder.line 2).heldBy 0 = true
    ∧ holder.quality = .nominal ∧ holder.entryCount 0 < holder.share 0 ∧ holder.totalEntries < 64 := by
  decide +kernel

/-- SCHEDULE at the edges of its checks: 49 and 50 ticks ahead, behind, the horizon and one tick more,
the same line and due again, a full share, a line that is not held, a strict entry when DEGRADED. -/
theorem test_schedule_edges :
    scheduling 1000050 holder = some (.ok, [0, 64, 1])
    ∧ scheduling 1000049 holder = some (.tooSoon, [])
    ∧ scheduling 999999 holder = some (.tooSoon, [])
    ∧ scheduling 1099512627776 holder = some (.ok, [0, 64, 1])
    ∧ scheduling 1099512627777 holder = some (.tooFar, [])
    ∧ scheduling 1000050 booked = some (.conflict, [])
    ∧ scheduling 1000051 { booked with options := { booked.options with shares := #v[1, 0, 0, 0] } }
      = some (.noSpace, [])
    ∧ scheduling 1000050 (opens 0 live) = some (.notHolder, [])
    ∧ yields .schedule (asks 0 0x30 (bookingBytes { entry 1000050 .setHigh with strict := true })
        { holder with clock := some .backup }) = some (.degraded, []) := by decide +kernel

theorem test_witness_batch :
    let m (due : Count) := bookingBytes (entry due .setHigh)
    BookedInTurn 0 [entry 1000050 .setHigh] holder (bookEntry 0 (entry 1000050 .setHigh) holder).1
        [(bookEntry 0 (entry 1000050 .setHigh) holder).2]
    ∧ holder.isOpen 0 = true
    ∧ yields .batch (asks 0 0x31 ([2] ++ m 1000050 ++ m 1000060) holder) = some (.ok, [0, 0, 64, 0, 65, 2])
    ∧ yields .batch (asks 0 0x31 ([2] ++ m 1000050 ++ m 1000050) holder) = some (.conflict, [2])
    ∧ yields .batch (asks 0 0x31 ([2] ++ m 1000050 ++ [9] ++ (m 1000060).tail) holder) = some (.invalid, [2])
    ∧ yields .batch (asks 0 0x31 ([4] ++ m 1000050) holder) = some (.invalid, [0]) :=
  ⟨.cons _ _ _ _ _ (by decide +kernel) (.nil _), by decide +kernel⟩

theorem booked_named : EntriesNamed booked where
  handle := by
    show ∀ k, ∀ e ∈ booked.slot k, e.handle = handleOf k (booked.useCount k) ∧ booked.useCount k ≠ 0
    decide +kernel
  repeats := by
    intro k e r he hr
    have h : ∀ k, ∀ e ∈ booked.slot k, e.body.rep = none := by decide +kernel
    rw [h k e he] at hr
    cases hr
  width := by
    intro k e v w he ha
    have h : ∀ k, ∀ e ∈ booked.slot k, e.body.action = .setHigh := by decide +kernel
    rw [h k e he] at ha
    cases ha

theorem test_witness_cancel :
    EntriesNamed booked
    ∧ Executing (asks 0 0x32 [0, 64] booked) (job 0 0x32 [0, 64]) 0x32 (beBytes 2 (64 : Handle).toNat)
    ∧ (booked.slot 0).map (·.owner) = some 0 ∧ booked.isOpen 0 = true
    ∧ yields .cancel (asks 0 0x32 [0, 64] booked) = some (.ok, [2, 0, 1])
    ∧ yields .cancel (asks 0 0x32 [0, 128] booked) = some (.notFound, [])
    ∧ Executing (asks 0 0x33 [2] booked) (job 0 0x33 [2]) 0x33 [byteOf (2 : LineId).val]
    ∧ (booked.line 2).heldBy 0 = true ∧ (booked.line 3).heldBy 0 = false
    ∧ (after .cancelLine (asks 0 0x33 [2] booked)).slot 0 = none :=
  ⟨booked_named, by decide +kernel⟩

theorem test_witness_listEntries :
    Executing (asks 0 0x35 [0x00, 0x00] booked) (job 0 0x35 [0x00, 0x00]) 0x35 [0x00, 0x00]
    ∧ yields .listEntries (asks 0 0x35 [0, 0] booked) = some (.ok, [1, 1, 0, 0, 64])
    ∧ beBytes 2 (64 : Handle).toNat = [0, 64] ∧ EntriesNamed booked
    ∧ (booked.dueOrder.filter fun p => p.2.owner == 0).map (fun p => p.2.handle) = [] ++ 64 :: []
    ∧ yields .listEntries (asks 0 0x35 [0, 64] booked) = some (.ok, [1, 0, 0])
    ∧ (128 : Handle) ∉ (booked.dueOrder.filter fun p => p.2.owner == 0).map (fun p => p.2.handle)
    ∧ yields .listEntries (asks 0 0x35 [0, 128] booked) = some (.notFound, []) :=
  ⟨by decide +kernel, by decide +kernel, by decide +kernel, booked_named, by decide +kernel⟩

theorem test_witness_subscriptions :
    Executing (asks 0 0x40 [3, 3] holder) (job 0 0x40 [3, 3]) 0x40
        [byteOf (3 : InputId).val, edgeChoiceCode .both]
    ∧ Executing (asks 0 0x41 [3] holder) (job 0 0x41 [3]) 0x41 [byteOf (3 : InputId).val]
    ∧ (holder.client 0).sub 3 = none
    ∧ ((after .subscribe (asks 0 0x40 [3, 3] holder)).client 0).sub 3 = some .both
    ∧ Executing (asks 0 0x42 [] holder) (job 0 0x42 []) 0x42 []
    ∧ Executing (asks 0 0x48 [] holder) (job 0 0x48 []) 0x48 [] ∧ holder.isOpen 0 = true := by
  decide +kernel

/-- A queue of 12 notices: a 13th key is lost, a key that is held is merged. -/
def fullQueue : State :=
  holder.setClient 0 { holder.client 0 with
    notices := (List.range 12).map fun k =>
      ⟨.granted, BitVec.ofNat 16 k, .granted, 0, 0, if k = 0 then 255 else 1⟩ }

theorem test_witness_notices :
    fullQueue.isOpen 0 = true ∧ (fullQueue.client 0).notices.length = 12
    ∧ (∀ m ∈ (fullQueue.client 0).notices, Notice.hasKey .clock 0 m = false)
    ∧ ((postNotice 0 .clock 0 (.clock .main) 0 fullQueue).client 0).lost = true
    ∧ ((postNotice 0 .granted 0 .granted 0 fullQueue).client 0).notices.length = 12
    ∧ ((postNotice 0 .granted 0 .granted 0 fullQueue).client 0).lost = false
    ∧ live.isOpen 0 = false := by decide +kernel

/-- The token free, held by the requester with and without a load, and held by another. -/
theorem test_witness_authority :
    let s (a : Option ClientId) (b : Option ArmedLoad) := { holder with authority := a, armed := b }
    Executing (asks 0 0x51 [] (s none none)) (job 0 0x51 []) 0x51 []
    ∧ Executing (asks 0 0x52 [] (s (some 0) none)) (job 0 0x52 []) 0x52 []
    ∧ (after .claimAuthority (asks 0 0x51 [] (s none none))).authority = some 0
    ∧ yields .claimAuthority (asks 0 0x51 [] (s (some 3) none)) = some (.held, [3])
    ∧ (after .yieldAuthority (asks 0 0x52 [] (s (some 0) (some ⟨1, .rise⟩)))).armed = none
    ∧ yields .yieldAuthority (asks 0 0x52 [] (s (some 1) none)) = some (.noAuthority, [])
    ∧ live.isOpen 0 = false ∧ ([0] : List Byte) ≠ [] := by decide +kernel

/-- SET_TIME at the step limit and beyond it, SHIFT both ways, and without the token. -/
theorem test_witness_setTime :
    let s := { holder with authority := some 0 }
    let set (v : Nat) := asks 0 0x53 (beBytes 6 v) s
    Executing (set 3000000) (job 0 0x53 (beBytes 6 3000000)) 0x53 (beBytes 6 (3000000 : Count).toNat)
    ∧ stepAllowed 4295967295 s = true ∧ stepAllowed 4295967296 s = false
    ∧ (after .setTime (set 4295967295)).timebase = 4295967295
    ∧ (after .setTime (set 4295967296)).timebase = 1000000
    ∧ Executing (asks 0 0x54 [1, 0, 0, 0, 5] s) (job 0 0x54 [1, 0, 0, 0, 5]) 0x54
        ([directionCode .forward] ++ beBytes 4 (5 : BitVec 32).toNat)
    ∧ (after .shift (asks 0 0x54 [1, 0, 0, 0, 5] s)).timebase = 1000005
    ∧ (after .shift (asks 0 0x54 [2, 0, 0, 0, 5] s)).timebase = 999995
    ∧ stepOf 1000000 1000005 = (.forward, 5) ∧ s.isOpen 0 = true ∧ (s.client 0).notices = []
    ∧ (5 : BitVec 32) ≠ 0 ∧ holder.authority ≠ some 0 := by decide +kernel

theorem test_witness_armSync :
    let s (b : Option ArmedLoad) := { holder with authority := some 0, armed := b }
    let ps : List Byte := [0, 0, 0, 0, 0, 9, 2]
    Executing (asks 0 0x55 ps (s none)) (job 0 0x55 ps) 0x55
        (beBytes 6 (9 : Count).toNat ++ [edgeKindCode .fall])
    ∧ (after .armSync (asks 0 0x55 ps (s none))).armed = some ⟨9, .fall⟩
    ∧ Executing (asks 0 0x56 [] (s none)) (job 0 0x56 []) 0x56 []
    ∧ yields .disarmSync (asks 0 0x56 [] (s (some ⟨9, .fall⟩))) = some (.ok, [0, 0, 0, 0, 0, 9, 2])
    ∧ holder.authority ≠ some 0 := by decide +kernel

/-- RESTORE_CLOCK in the three clock states, and a restart at its two ends and one cycle before them. -/
theorem test_witness_restart :
    let s (c : ClockState) := { holder with authority := some 0, clock := some c }
    let r (p : Nat) (w : Option Nat) := { holder with clock := some .restarting, restartProgress := p, startWindow := w }
    let silent (m : Nat) (d : Fin 8) := { r 5 none with missingCycles := m, divider := d }
    let asked (t : State) := { t with engine := some { job 0 0x57 [] with outcome := some (.ok, []) } }
    Executing (asks 0 0x57 [] (s .backup)) (job 0 0x57 []) 0x57 []
    ∧ (after .restoreClock (asks 0 0x57 [] (s .backup))).startWindow = some 80000
    ∧ (after .restoreClock (asks 0 0x57 [] (s .main))).clock = some .main
    ∧ (after .restoreClock (asks 0 0x57 [] (s .restarting))).startWindow = none
    ∧ (after .firstMainEdge (r 0 (some 1))).startWindow = none
    ∧ (after .firstMainEdge (r 0 (some 0))).startWindow = some 0
    ∧ (after .startWindowExpiry (r 0 (some 8))).clock = some .restarting
    ∧ dueEvents (r 0 (some 7)) = [] ∧ (after .startWindowExpiry (r 0 (some 7))).clock = some .backup
    ∧ (after .startWindowExpiry (r 0 (some 0))).clock = some .backup
    ∧ (after .startWindowExpiry (asked (r 0 (some 0)))).clock = some .restarting
    ∧ (after .restartSuccess (r 16382 none)).clock = some .restarting
    ∧ dueEvents (r 16383 none) = [] ∧ (after .restartSuccess (r 16383 none)).clock = some .main
    ∧ (after .restartSuccess (r 16384 none)).clock = some .main
    ∧ (after .restartSuccess (asked (r 16384 none))).clock = some .restarting
    ∧ (after .restartMissingEdge (silent 4 7)).clock = some .backup
    ∧ (after .restartMissingEdge (asked (silent 4 7))).clock = some .restarting
    ∧ dueEvents (silent 3 6) = [] ∧ (after .restartMissingEdge (silent 3 6)).clock = some .backup
    ∧ (after .restartMissingEdge (silent 3 7)).clock = some .restarting
    ∧ dueEvents (asked (r 0 (some 7))) = [] ∧ (after .startWindowExpiry (asked (r 0 (some 7)))).divider = 0
    ∧ dueEvents (asked (silent 3 6)) = [] ∧ (after .restartMissingEdge (asked (silent 3 6))).divider = 6
    ∧ dueEvents (asked (r 16383 none)) = []
    ∧ (after .restartSuccess (asked (r 16383 none))).restartProgress = 16383
    ∧ dueEvents (silent 3 7) = []
    ∧ holder.clock ≠ some .restarting := by decide +kernel

theorem test_witness_failover :
    let s := { books { entry 1000050 .setHigh with strict := true } holder with missingCycles := 4 }
    s.clock = some .main ∧ s.isOpen 0 = true ∧ (s.client 0).notices = []
    ∧ (after .failover s).clock = some .backup ∧ (after .failover s).slot 0 = none
    ∧ ((after .failover s).client 0).notices.map (·.detail) = [.clock .backup, .withdrawn .strict]
    ∧ dueEvents { s with missingCycles := 3 } = [] ∧ dueEvents { s with missingCycles := 0 } = []
    ∧ (after .failover { s with missingCycles := 0 }).clock = some .backup
    ∧ (after .failover booked).slot 0 = booked.slot 0
    ∧ ({ s with clock := some .backup } : State).clock ≠ some .main := by decide +kernel

/-- The supply at 2.95 V and just below it, and at 3.03 V and just above it. -/
theorem test_witness_supplyCrossing :
    live.options.threshold = .v295 ∧ 1200000 ≤ live.supplyUv
    ∧ (HoldThreshold.v295, 2950000) ∈ [(HoldThreshold.v280, 2800000), (.v295, 2950000), (.v310, 3100000)]
    ∧ (after (.supplyCrossing 2949999) live).holdFilter = some 5000
    ∧ (after (.supplyCrossing 2950000) { live with holdFilter := some 4990 }).holdFilter = none
    ∧ (after (.supplyCrossing 3030001) { live with supplyState := .hold }).holdFilter = some 5000
    ∧ (after (.supplyCrossing 3030000) { live with supplyState := .hold, holdFilter := some 4990 }).holdFilter = none
    ∧ (after (.supplyCrossing 2400000) { live with sampled := false }).supplyUv = 2400000 := by
  decide +kernel

/-- The hold filters after 20 ticks and after 19. -/
theorem test_witness_hold :
    let s (x : SupplyState) (f : Count) := { holder with supplyState := x, holdFilter := some f }
    20 ≤ distanceAhead (s .normal 4980).run 4980 ∧ distanceAhead (s .normal 4981).run 4981 < 20
    ∧ (after .holdEntry (s .normal 4980)).supplyState = .hold
    ∧ ((after .holdEntry (s .normal 4980)).line 2).level = .low
    ∧ (after .holdEntry (s .normal 4981)).supplyState = .normal
    ∧ (holder.client 0).notices = [] ∧ holder.isOpen 0 = true := by decide +kernel

theorem test_witness_holdExit :
    EntriesNamed { booked with supplyState := .hold, holdFilter := some 4980 }
    ∧ 20 ≤ distanceAhead booked.run 4980 :=
  ⟨⟨booked_named.handle, booked_named.repeats, booked_named.width⟩, by decide +kernel⟩

/-- STORE_OPTIONS of the default image, for each newest copy. -/
theorem test_witness_storeOptions :
    let s (a b : CopyRecord) := { holder with authority := some 0, recordA := a, recordB := b }
    let ask (a b : CopyRecord) := (after .storeOptions (asks 0 0x61 (imageBytes .default) (s a b))).store.map fun j => (j.target, j.generation)
    addressesValid Options.default.address2 Options.default.address3 = true
    ∧ Executing (asks 0 0x61 (imageBytes .default) holder) (job 0 0x61 (imageBytes .default)) 0x61
        (imageBytes .default)
    ∧ ask ⟨false, 0⟩ ⟨false, 0⟩ = some (.a, 1)
    ∧ ask ⟨true, 65535⟩ ⟨false, 0⟩ = some (.b, 1)
    ∧ ask ⟨true, 65535⟩ ⟨true, 1⟩ = some (.a, 2)
    ∧ ask ⟨true, 1⟩ ⟨true, 32768⟩ = some (.a, 32769)
    ∧ ask ⟨true, 1⟩ ⟨true, 32769⟩ = some (.b, 2)
    ∧ ask ⟨true, 5⟩ ⟨true, 5⟩ = some (.b, 6) := by decide +kernel

theorem default_inRange : FieldsInRange Options.default where
  share := by decide
  sum := by decide
  filters := by decide
  syncFilter := by decide

/-- A store after 8000 ticks and after 7999, verified and not. -/
theorem test_witness_storeCompletion :
    let image := imageBytes .default
    let s (at' : Count) : State := { holder with run := 9000, store := some ⟨0, .b, 3, image, at'⟩ }
    8000 ≤ distanceAhead (s 1000).run 1000 ∧ distanceAhead (s 1001).run 1001 < 8000
    ∧ (copyBytes image 3).length = 32
    ∧ (after (.storeCompletion (copyBytes image 3)) (s 1000)).recordB = ⟨true, 3⟩
    ∧ (after (.storeCompletion (List.replicate 32 0)) (s 1000)).recordB = ⟨false, 0⟩
    ∧ (after (.storeCompletion (copyBytes image 3)) (s 1001)).store.isSome = true := by
  decide +kernel

/-- A store in progress whose target's record is not good. -/
theorem test_witness_targetNotGood :
    TargetNotGood { holder with store := some ⟨0, .b, 3, imageBytes .default, 1000⟩, recordA := ⟨true, 2⟩ } where
  target := by
    intro job h
    cases h
    exact ⟨fun h => (by cases h), fun _ => rfl⟩
  starting := fun h => absurd rfl h

theorem test_witness_resets :
    (after (.powerReset 1200000) { live with supplyUv := 1199999 }).phase = .heldInReset
    ∧ (after (.supplyCollapse 2399999) { live with supplyUv := 2400000 }).collapseLatch = true
    ∧ (after (.supplyCollapse 1199999) { live with supplyUv := 2400000 }).collapseLatch = false
    ∧ (after (.supplyFallingBelow1V2 1199999) { live with supplyUv := 1200000, collapseLatch := true }).collapseLatch
      = false
    ∧ (after (.pinReset 16) live).phase = .heldInReset
    ∧ (after (.pinReset 15) live).phase = .running
    ∧ (after (.pinReset 16) live).fourWire = .notReady false
    ∧ (after (.pinReset 16) { live with selA := true }).sdoDriven = false := by decide +kernel

theorem test_witness_starts :
    let held (p c : Bool) := { State.reset with powerUpFlag := p, collapseLatch := c }
    State.reset.phase = .heldInReset ∧ 1200000 ≤ State.reset.supplyUv
    ∧ (after (.startSequence 2500001 .high) (held true true)).lastReset = .power
    ∧ (after (.startSequence 2500001 .high) (held false true)).lastReset = .supply
    ∧ (after (.startSequence 2500001 .high) (held false false)).lastReset = .pin
    ∧ (after (.startSequence 2500000 .high) (held true true)).phase = .heldInReset
    ∧ (after (.clockStart []) { State.reset with phase := .beforeClockStart, selA := true }).clock
      = some .backup := by decide +kernel

/-- Clock start with start clock MAIN, a cycle before each of its ends, and the fourth silent cycle. -/
theorem test_witness_clockStart :
    let s (p : Proving) (m : Nat) :=
      { State.reset with phase := .beforeClockStart, proving := some p, missingCycles := m }
    (after (.clockStart [.main]) (s ⟨1, true, 16383⟩ 3)).clock = some .main
    ∧ (after (.clockStart [.backup]) (s ⟨1, true, 16383⟩ 0)).clock = some .backup
    ∧ (after (.clockStart [.backup, .main]) (s ⟨9, true, 16383⟩ 2)).clock = some .main
    ∧ (after (.clockStart [.backup, .main]) (s ⟨9, true, 16383⟩ 3)).clock = none
    ∧ (after (.clockStart [.main, .main]) (s ⟨9, false, 16383⟩ 3)).clock = some .main
    ∧ after (.clockStart []) (s ⟨9, false, 0⟩ 0) = s ⟨9, false, 0⟩ 0
    ∧ (s ⟨9, false, 0⟩ 0).clock = none ∧ (s ⟨9, false, 0⟩ 0).pending = [] := by decide +kernel

/-- A stored image, in copy A alone and in copy B with the newer generation. -/
theorem test_witness_optionLoad :
    let o : Options := { Options.default with address2 := 0x3B, shares := #v[64, 0, 0, 0], startClock := .backup }
    let s : State := { State.reset with phase := .beforeOptionLoad, copyA := copyBytes (imageBytes o) 65535 }
    (after .optionLoad s).optionStatus = .copyA
    ∧ (after .optionLoad s).options = { o with address2 := 0x3A, address3 := 0x3B }
    ∧ (after .optionLoad { s with copyB := copyBytes (imageBytes .default) 1 }).optionStatus = .copyB
    ∧ copyGood s.copyB = false := by decide +kernel

theorem test_witness_status :
    live.attention 0 = false ∧ fullQueue.attention 0 = true
    ∧ readyStatusByte 0 fullQueue = 0xA0 := by decide +kernel

theorem test_witness_selects :
    (after (.selectActive .selB) live).fourWire
      = .active { client := 1, bits := [], status := 0x80, response := none }
    ∧ (after (.selectCollision .selA) (after (.selectActive .selB) live)).fourWire = .void
    ∧ ((after (.selectCollision .selA) (after (.selectActive .selB) live)).client 1).marks.collided = true := by
  decide +kernel

/-- SELA active with a status byte that carried DISCARDED. -/
def selected : State :=
  { live with selA := true, fourWire := .active ⟨0, [], 0x84, none⟩ }

theorem test_witness_selectRelease :
    let frame : List Byte := [0x12, 0x05, 0x00, 0x35]
    ((after (.selectRelease .selA (frame.flatMap bitsOfByte)) selected).client 0).request
      = some ⟨0x12, 0x05, []⟩
    ∧ ((after (.selectRelease .selA [true]) selected).client 0).marks.frameErr = true
    ∧ (after (.selectRelease .selA []) selected).clients = selected.clients
    ∧ (after (.selectRelease .selA []) selected).fourWire = .idle
    ∧ (after (.selectRelease .selA [true]) (after .fetch selected)).clients
      = (after .fetch selected).clients
    ∧ (after (.selectRelease .selA [true]) { selected with fourWire := .void, selB := true }).fourWire = .void
    ∧ (after (.selectRelease .selA []) { selected with fourWire := .notReady true }).fourWire = .idle
    ∧ parseFrame [0x12, 0x05, 0x00] = none ∧ selected.selA = true := by decide +kernel

/-- A release after the first byte is whole, after four bits of it, and with a FETCH in its own bits. -/
theorem test_witness_selectRelease_firstByte :
    let rest (frame : List Byte) := (frame.drop 1).flatMap bitsOfByte
    let s := after (.statusByteSentWhole 0x12) (markDiscarded 0 selected)
    let half : State := { selected with fourWire := .active ⟨0, [false, false, false, true], 0x84, none⟩ }
    ((after (.selectRelease .selA (rest [0x12, 0x05, 0x00, 0x35])) s).client 0).request = some ⟨0x12, 0x05, []⟩
    ∧ ((after (.selectRelease .selA (rest [0x12, 0x05, 0x00, 0x35])) s).client 0).marks.discarded = false
    ∧ ((after (.selectRelease .selA (rest [0x12, 0x05, 0x00, 0x34])) s).client 0).marks.frameErr = true
    ∧ ((after (.selectRelease .selA []) s).client 0).marks.frameErr = true
    ∧ ((after (.selectRelease .selA ([false, false, true, false] ++ rest [0x12, 0x05, 0x00, 0x35])) half).client 0).request
        = some ⟨0x12, 0x05, []⟩
    ∧ ((after (.selectRelease .selA (List.replicate 11 false)) (markDiscarded 0 selected)).client 0).marks.discarded
        = false
    ∧ (after (.selectRelease .selA (List.replicate 11 false)) selected).fourWire = .idle := by decide +kernel

theorem test_witness_firstByte :
    (after .fetch selected).fourWire
      = .active ⟨0, List.replicate 8 false, 0x84, some (responseFrame 0 .noResponse [] 0x00)⟩
    ∧ (after (.statusByteSentWhole 0x12) selected).fourWire
      = .active ⟨0, bitsOfByte 0x12, 0x84, none⟩ := by decide +kernel

theorem test_witness_twoWire :
    live.twoWire = .idle ∧ (0x3A#7).setWidth 8 = live.options.address2
    ∧ (0x3B#7).setWidth 8 = live.options.address3 ∧ (0x3B#7).setWidth 8 ≠ live.options.address2
    ∧ ((after (.twoWireWrite 0x3A [0x12, 0x05, 0x00, 0x35]) live).client 2).request
      = some ⟨0x12, 0x05, []⟩
    ∧ ((after (.twoWireWrite 0x3B [0x12, 0x05, 0x00, 0x36]) live).client 3).marks.frameErr = true
    ∧ (after (.twoWireWrite 0x3C [0x12]) live).twoWire = .ignoring
    ∧ (after (.twoWireRead 0x3A 7 true) live).sdaByte 0 = some 0x80
    ∧ (after (.twoWireRead 0x3A 8 false) live).sdaByte 0 = some 0x80
    ∧ (after (.twoWireRead 0x3A 8 false) live).sdaByte 1 = none
    ∧ (after (.twoWireRead 0x3A 8 true) live).sdaByte 1 = some 0
    ∧ ((after (.twoWireWrite 0x3B [0x12, 0x05, 0x41]) live).client 3).marks.frameErr = true
    ∧ ((after (.twoWireWrite 0x3B [0x12, 0x05, 0x40]) live).client 3).marks.frameErr = false
    ∧ ((after (.twoWireWrite 0x3A [0x12, 0x05, 0x00, 0x35, 0x00]) live).client 2).marks.frameErr = false
    ∧ (after (.twoWireWrite 0x3A [0x12, 0x05, 0x00, 0x35, 0x00]) live).twoWire = .ignoring
    ∧ ((after (.busError .stop) (after (.twoWireWrite 0x3A [0x12]) live)).client 2).marks.frameErr = true
    ∧ (after (.busError .start) live).twoWire = .address := by decide +kernel

/-- SDO and SDA at the first bits of a status byte 80h, at the end of a first byte, and released. -/
theorem test_witness_outputs :
    let s := after (.selectActive .selA) live
    s.sdoBit 0 = some true ∧ s.sdoBit 1 = some false ∧ s.sdoBit 7 = some false ∧ s.sdoBit 8 = some true
    ∧ ({ live with fourWire := .notReady false, selA := true } : State).sdoBit 6 = some true
    ∧ ({ live with fourWire := .notReady true, selA := true } : State).sdoBit 0 = none
    ∧ live.sdoBit 0 = none
    ∧ busAddressByte 0x3A true = 0x75 ∧ busAddressByte 0x3A false = 0x74
    ∧ (after (.twoWireRead 0x3A 0 true) live).sdaLow = true
    ∧ (after (.twoWireRead 0x3A 1 true) live).sdaLow = true
    ∧ (after (.twoWireRead 0x3A 8 false) live).sdaLow = false
    ∧ (after (.twoWireWrite 0x3A [0x12]) live).sdaLow = true
    ∧ (after (.busError .stop) (after (.twoWireWrite 0x3A [0x12]) live)).sdaLow = false := by
  decide +kernel

theorem test_witness_descriptor :
    BookingInRange { entry 5 (.pulse .high 99) with rep := some ⟨100, .times 2⟩ }
    ∧ FieldsInRange Options.default
    ∧ parseImage (imageBytes .default) = some .default :=
  ⟨⟨fun v w h => by cases h; decide, fun r h => by cases h; exact ⟨by decide, fun n hn => by cases hn; decide⟩,
    fun v w r h k => by cases h; cases k; decide⟩, default_inRange, by decide +kernel⟩

/-! ## A state that meets the invariants, and a step from it -/

/-- Client 0 holds EL2 with an entry, client 2 waits for it, and client 0's request is in the engine. -/
def busy : State :=
  let s := books (entry 1000050 .setHigh) shared
  { (s.setClient 0 { s.client 0 with response := .pending 7 0x12 }) with
    engine := some (job 0 0x12 []), pending := [.heartbeat] }

theorem busy_owned : Owned busy where
  authority := by decide +kernel
  armed := by decide +kernel
  holders := by
    show ∀ l, ∀ lease ∈ (busy.line l).lease, busy.isOpen lease.client = true
    decide +kernel
  waiters := by decide +kernel
  waitersOnHeld := by decide +kernel
  distinct := by decide +kernel
  atMostThree := by decide +kernel
  holderNotWaiting := by decide +kernel
  entries := by
    show ∀ k, ∀ e ∈ busy.slot k, (busy.line e.body.line).heldBy e.owner = true
    decide +kernel
  subscriptions := by decide +kernel
  queues := by decide +kernel

theorem busy_queues : QueuesBounded busy where
  notices := by decide +kernel
  keys := by decide +kernel
  repeats := by decide +kernel
  captures := by decide +kernel
  sixteenth := by decide +kernel
  gaps := by decide +kernel
  lost := by
    intro c n h
    have : ∀ c, (busy.client c).captures = [] := by decide +kernel
    rw [this c] at h
    cases h

theorem busy_named : EntriesNamed busy :=
  ⟨booked_named.handle, booked_named.repeats, booked_named.width⟩

theorem busy_rest : LinesRest busy where
  free := by decide +kernel
  noPulse := by decide +kernel
  held := fun h => absurd h (by decide +kernel)
  starting := by decide +kernel
  floating := by decide +kernel

theorem busy_sessions : DeadlinesAhead busy where
  period := by
    intro c d h
    have : ∀ c, ∀ d ∈ (busy.client c).session.data?, 10 ≤ d.period ∧ d.period ≤ 60000 := by
      decide +kernel
    exact this c d (by rw [h]; rfl)
  ahead := by
    intro c d h
    have : ∀ c, ∀ d ∈ (busy.client c).session.data?,
      distanceAhead d.deadline busy.run ≤ d.period * 1000 := by decide +kernel
    exact this c d (by rw [h]; rfl)
  starting := by decide +kernel

theorem busy_engine : PendingIsHeld busy ∧ EngineInTime busy := by
  refine ⟨?_, ⟨?_, by decide +kernel, by decide +kernel⟩⟩
  · intro c q k h
    have : ∀ c, c ≠ 0 → (busy.client c).response = .empty := by decide +kernel
    by_cases hc : c = 0
    · subst hc
      have h0 : (busy.client 0).response = .pending 7 0x12 := by decide +kernel
      rw [h0] at h
      cases h
      exact ⟨_, rfl, rfl, rfl, rfl⟩
    · rw [this c hc] at h
      cases h
  · show ∀ j ∈ busy.engine, distanceAhead busy.run j.takenAt ≤ 25
    decide +kernel

theorem busy_calendar : StrictNeedsNominal busy ∧ SharesKept busy ∧ TargetNotGood busy := by
  refine ⟨⟨fun h => absurd h (by decide +kernel), by decide +kernel⟩,
    ⟨by decide +kernel, by decide +kernel⟩, ⟨fun job h => ?_, fun _ => rfl⟩⟩
  have none : busy.store = .none := rfl
  rw [none] at h
  cases h

theorem busy_dues : DuesAhead busy ∧ busy.phase = .running ∧ busy.supplyState = .normal := by
  refine ⟨?_, rfl, rfl⟩
  show ∀ k, ∀ e ∈ busy.slot k, distanceAhead e.body.due busy.timebase ≤ 2 ^ 40
  decide +kernel

/-- The step from that state, which each statement about every step is about. -/
theorem test_busy_step :
    (match step busy with
      | .next t => t.engine.map (·.outcome)
      | .fault _ => none
      | .refused _ => none)
      = some (some (.ok, [0, 0, 0x00, 0x0F, 0x42, 0x40])) := by decide +kernel

end Sys2Proof.Machine.Tests
end

section
/-!
PROOF. The time authority: what the two requests of the token answer, case by case, and what the execution of
the request held then is (R19, R20).
-/

namespace Sys2Proof.Machine

/-! ## The checks that requests share -/

/-- Check 2 of R137 ends a request whose client is not OPEN. -/
theorem whenOpen_notOpen {c : ClientId} {s : State} (closed : s.isOpen c = false) (k : State × Reply) :
    whenOpen c s k = (s, .notOpen, []) := by
  simp [whenOpen, refuse, closed]

/-- Check 2 of R137 lets an OPEN client's request pass. -/
theorem whenOpen_opened {c : ClientId} {s : State} (opened : s.isOpen c = true) (k : State × Reply) :
    whenOpen c s k = k := by
  simp [whenOpen, opened]

/-- Parameters do not parse where there are to be none (R137). -/
theorem parseNone_of_ne_nil {ps : List Byte} (given : ps ≠ []) : parseNone ps = none := by
  cases ps with
  | nil => exact absurd rfl given
  | cons b bs => rfl

/-- An OPEN client's request that is to have no parameters and has some fails check 3 of R137. -/
theorem whenOpen_withParams_of_ne_nil {c : ClientId} {s : State} {ps : List Byte}
    (opened : s.isOpen c = true) (given : ps ≠ []) (k : Unit → State × Reply) :
    whenOpen c s (withParams (parseNone ps) s k) = (s, .invalid, []) := by
  rw [whenOpen_opened opened, parseNone_of_ne_nil given]
  rfl

/-- An OPEN client's request without parameters, where there are to be none, passes the checks. -/
theorem whenOpen_withParams_nil {c : ClientId} {s : State} (opened : s.isOpen c = true)
    (k : Unit → State × Reply) : whenOpen c s (withParams (parseNone []) s k) = k () :=
  whenOpen_opened opened _

/-- The execution of the request held makes the state and keeps the reply that the request answers. -/
theorem runRequest_of_answer {want : Byte → Bool} {f : Request} {s t : State} {j : EngineJob}
    {kind : Byte} {params : List Byte} {status : Status} {result : List Byte}
    (held : Executing s j kind params) (wanted : want kind = true)
    (answer : f j.client params s = (t, status, result)) :
    runRequest want f s = t.replied j status result := by
  rw [runRequest_executing want f held wanted, answer]

/-! ## CLAIM_AUTHORITY -/

/-- A free token goes to the requester (R19). -/
theorem requestClaimAuthority_free {c : ClientId} {s : State} (opened : s.isOpen c = true)
    (free : s.authority = none) :
    requestClaimAuthority c [] s = ({ s with authority := some c }, .ok, [byteOf c.val]) := by
  rw [requestClaimAuthority, whenOpen_withParams_nil opened, free]
  rfl

/-- A token that is held stays where it is, and its holder is named (R19). -/
theorem requestClaimAuthority_held {c holder : ClientId} {s : State} (opened : s.isOpen c = true)
    (held : s.authority = some holder) :
    requestClaimAuthority c [] s
      = (s, if holder = c then .already else .held, [byteOf holder.val]) := by
  rw [requestClaimAuthority, whenOpen_withParams_nil opened, held]
  rfl

/-- The execution of a CLAIM_AUTHORITY that is held is what the request answers. -/
theorem exec_claimAuthority_of_answer {s t : State} {j : EngineJob} {ps : List Byte} {status : Status}
    {result : List Byte} (held : Executing s j 0x51 ps)
    (answer : requestClaimAuthority j.client ps s = (t, status, result)) :
    exec .claimAuthority s = .next (t.replied j status result) :=
  congrArg Host.Outcome.next (runRequest_of_answer held rfl answer)

/-! ## YIELD_AUTHORITY -/

/-- Only the holder of the token can yield it (R20). -/
theorem requestYieldAuthority_other {c : ClientId} {s : State} (opened : s.isOpen c = true)
    (other : s.authority ≠ some c) : requestYieldAuthority c [] s = (s, .noAuthority, []) := by
  rw [requestYieldAuthority, whenOpen_withParams_nil opened, if_neg other]
  rfl

/-- The holder's yield frees the token where no load is armed (R20). -/
theorem requestYieldAuthority_unarmed {c : ClientId} {s : State} (opened : s.isOpen c = true)
    (holder : s.authority = some c) (unarmed : s.armed = none) :
    requestYieldAuthority c [] s = ({ s with authority := none }, .ok, []) := by
  have same : { s with authority := none, armed := none } = { s with authority := none } := by
    rw [← unarmed]
  rw [requestYieldAuthority, whenOpen_withParams_nil opened, if_pos holder, same, unarmed]
  rfl

/-- The holder's yield frees the token and removes the load that is armed, with SYNC CANCELLED (R20). -/
theorem requestYieldAuthority_armed {c : ClientId} {s : State} (opened : s.isOpen c = true)
    (holder : s.authority = some c) (armed : s.armed ≠ none) :
    requestYieldAuthority c [] s
      = (postNotice c .sync 0 (.sync .cancelled) 0 { s with authority := none, armed := none }, .ok, []) := by
  have load : s.armed.isSome = true := Option.isSome_iff_ne_none.mpr armed
  rw [requestYieldAuthority, whenOpen_withParams_nil opened, if_pos holder, load]
  rfl

/-- The execution of a YIELD_AUTHORITY that is held is what the request answers. -/
theorem exec_yieldAuthority_of_answer {s t : State} {j : EngineJob} {ps : List Byte} {status : Status}
    {result : List Byte} (held : Executing s j 0x52 ps)
    (answer : requestYieldAuthority j.client ps s = (t, status, result)) :
    exec .yieldAuthority s = .next (t.replied j status result) :=
  congrArg Host.Outcome.next (runRequest_of_answer held rfl answer)

/-! ## The obligation -/

/-- The token's two requests refuse with NOT_OPEN, and then with INVALID (R137, R139). -/
theorem authority_checks (s : State) (j : EngineJob) (ps : List Byte) (i : Instr)
    (held : i = .claimAuthority ∧ Executing s j 0x51 ps ∨ i = .yieldAuthority ∧ Executing s j 0x52 ps) :
    (s.isOpen j.client = false → exec i s = .next (s.replied j .notOpen []))
    ∧ (s.isOpen j.client = true → ps ≠ [] → exec i s = .next (s.replied j .invalid [])) := by
  obtain ⟨rfl, claim⟩ | ⟨rfl, yielding⟩ := held
  · exact ⟨fun closed => exec_claimAuthority_of_answer claim (whenOpen_notOpen closed _),
      fun opened given =>
        exec_claimAuthority_of_answer claim (whenOpen_withParams_of_ne_nil opened given _)⟩
  · exact ⟨fun closed => exec_yieldAuthority_of_answer yielding (whenOpen_notOpen closed _),
      fun opened given =>
        exec_yieldAuthority_of_answer yielding (whenOpen_withParams_of_ne_nil opened given _)⟩

/-- The authority flag of a client's flags byte says whether the client holds the token (R143). -/
theorem clientFlags_authority (s : State) (c : ClientId) :
    (clientFlags c s).getLsbD 2 = decide (s.authority = some c) := by
  obtain ⟨-, -, flag, -⟩ := clientFlags_bits c s
  rw [flag, beq_eq_decide]

/-- CLAIM_AUTHORITY of an OPEN client, by who holds the token (R19). -/
theorem exec_claimAuthority_by_holder {s : State} {j : EngineJob} (opened : s.isOpen j.client = true)
    (claim : Executing s j 0x51 []) :
    (s.authority = none →
      exec .claimAuthority s
        = .next ({ s with authority := some j.client }.replied j .ok [byteOf j.client.val]))
    ∧ (s.authority = some j.client →
        exec .claimAuthority s = .next (s.replied j .already [byteOf j.client.val]))
    ∧ ∀ other, s.authority = some other → other ≠ j.client →
        exec .claimAuthority s = .next (s.replied j .held [byteOf other.val]) := by
  refine ⟨fun free => ?_, fun own => ?_, fun other held differs => ?_⟩
  · exact exec_claimAuthority_of_answer claim (requestClaimAuthority_free opened free)
  · have answer := requestClaimAuthority_held opened own
    rw [if_pos rfl] at answer
    exact exec_claimAuthority_of_answer claim answer
  · have answer := requestClaimAuthority_held opened held
    rw [if_neg differs] at answer
    exact exec_claimAuthority_of_answer claim answer

/-- YIELD_AUTHORITY of an OPEN client, by who holds the token and whether a load is armed (R20). -/
theorem exec_yieldAuthority_by_holder {s : State} {j : EngineJob} (opened : s.isOpen j.client = true)
    (yielding : Executing s j 0x52 []) :
    (s.authority ≠ some j.client →
      exec .yieldAuthority s = .next (s.replied j .noAuthority []))
    ∧ (s.authority = some j.client → s.armed = none →
        exec .yieldAuthority s = .next ({ s with authority := none }.replied j .ok []))
    ∧ (s.authority = some j.client → s.armed ≠ none →
        exec .yieldAuthority s
          = .next ((postNotice j.client .sync 0 (.sync .cancelled) 0
              { s with authority := none, armed := none }).replied j .ok [])) := by
  refine ⟨fun other => ?_, fun own unarmed => ?_, fun own armed => ?_⟩
  · exact exec_yieldAuthority_of_answer yielding (requestYieldAuthority_other opened other)
  · exact exec_yieldAuthority_of_answer yielding (requestYieldAuthority_unarmed opened own unarmed)
  · exact exec_yieldAuthority_of_answer yielding (requestYieldAuthority_armed opened own armed)

/-- Settles O30: the checks, the authority flag, and the answers of the two requests by the holder of the
token. -/
theorem authorityIsClaimedAndYielded : Obligations.AuthorityIsClaimedAndYielded :=
  ⟨authority_checks, clientFlags_authority, fun _ _ opened =>
    ⟨exec_claimAuthority_by_holder opened, exec_yieldAuthority_by_holder opened⟩⟩

end Sys2Proof.Machine
end

section
/-!
PROOF. The event lines and their leases: what a pin does, what a pulse end does, and what LEAVE_QUEUE, DRIVE and
LINE_STATUS answer, case by case (R34, R42, R44, R45, R49).
-/

namespace Sys2Proof.Machine

/-! ## Parameters of the line requests -/

/-- An OPEN client's request whose parameters do not parse fails check 3 of R137. -/
theorem whenOpen_withParams_none {α : Type} {c : ClientId} {s : State} {parsed : Option α}
    (opened : s.isOpen c = true) (unparsed : parsed = none) (k : α → State × Reply) :
    whenOpen c s (withParams parsed s k) = (s, .invalid, []) := by
  rw [whenOpen_opened opened, unparsed]
  rfl

/-- An OPEN client's request whose parameters parse passes the checks of R137. -/
theorem whenOpen_withParams_some {α : Type} {c : ClientId} {s : State} {parsed : Option α} {a : α}
    (opened : s.isOpen c = true) (parses : parsed = some a) (k : α → State × Reply) :
    whenOpen c s (withParams parsed s k) = k a := by
  rw [whenOpen_opened opened, parses]
  rfl

/-- The byte of a line parses as that line. -/
theorem parseLine_byteOf (l : LineId) : parseLine [byteOf l.val] = some l :=
  lineOfCode_byteOf l

/-- A byte names one line only (R179). -/
theorem lineOfCode_eq_some_iff (b : Byte) (l : LineId) : lineOfCode b = some l ↔ b = byteOf l.val := by
  refine ⟨fun parses => ?_, fun code => by rw [code, lineOfCode_byteOf]⟩
  unfold lineOfCode at parses
  split at parses
  · obtain rfl := Option.some.inj parses
    simp [byteOf]
  · cases parses

/-- A byte names one level only (R179). -/
theorem levelOfCode_eq_some_iff (b : Byte) (v : Level) : levelOfCode b = some v ↔ b = levelCode v := by
  revert b; cases v <;> decide

/-- The parameters of DRIVE are the byte of a line and the code of a level (R44). -/
theorem parseDrive_eq_some_iff (ps : List Byte) (l : LineId) (v : Level) :
    parseDrive ps = some (l, v) ↔ ps = [byteOf l.val, levelCode v] := by
  constructor
  · intro parses
    unfold parseDrive at parses
    split at parses
    · split at parses
      next line level =>
        cases parses
        rw [(lineOfCode_eq_some_iff _ _).mp line, (levelOfCode_eq_some_iff _ _).mp level]
      next => cases parses
    · cases parses
  · rintro rfl
    simp only [parseDrive, lineOfCode_byteOf, levelOfCode_levelCode]

/-- Parameters that are not a line and a level are none of DRIVE (R44). -/
theorem parseDrive_none {ps : List Byte}
    (other : ∀ (l : LineId) (v : Level), ps ≠ [byteOf l.val, levelCode v]) : parseDrive ps = none :=
  Option.eq_none_iff_forall_ne_some.mpr fun (l, v) parses =>
    other l v ((parseDrive_eq_some_iff ps l v).mp parses)

/-! ## Pulse end -/

/-- A pulse at its end time leaves the line at its return level (R49). -/
theorem endPulse_due {l : LineId} {s : State} {p : Pulse} (pulse : (s.line l).pulse = some p)
    (due : p.endAt = s.run) :
    endPulse l s = s.setLine l { s.line l with level := p.returnLevel, pulse := none } := by
  simp only [endPulse, pulse, if_pos due]

/-- A line with no pulse in flight has no pulse end (R48, R49). -/
theorem endPulse_of_no_pulse {l : LineId} {s : State} (absent : (s.line l).pulse = none) :
    endPulse l s = s := by
  simp only [endPulse, absent]

/-- In a supply hold no line has a pulse in flight: a FREE line never has one, and a HELD line's was cut as
it was parked (R35, R53). -/
theorem LinesRest.no_pulse_in_hold {s : State} (rest : LinesRest s) (hold : s.supplyState = .hold)
    (l : LineId) : (s.line l).pulse = none := by
  cases lease : (s.line l).lease with
  | none => exact rest.noPulse l lease
  | some holder =>
    obtain ⟨-, cut⟩ := rest.held hold l holder lease
    exact cut

/-- Settles O12: the end of a pulse at its end time, and no pulse end where no pulse is in flight. -/
theorem pulseEndReturnsTheLine : Obligations.PulseEndReturnsTheLine := fun l _ =>
  ⟨fun _ pulse due => congrArg Host.Outcome.next (endPulse_due pulse due),
    fun absent => congrArg Host.Outcome.next (endPulse_of_no_pulse absent),
    fun rest hold => congrArg Host.Outcome.next (endPulse_of_no_pulse (rest.no_pulse_in_hold hold l))⟩

/-! ## The pin -/

/-- LOW drives the pin low in both drive modes (R34). -/
theorem pin_of_low {s : State} {l : LineId} (low : (s.line l).level = .low) : s.pin l = .drivenLow := by
  rw [State.pin, low]
  rfl

/-- HIGH drives the pin high in PUSH_PULL (R34). -/
theorem pin_of_high_pushPull {s : State} {l : LineId} (high : (s.line l).level = .high)
    (mode : s.driveMode l = .pushPull) : s.pin l = .drivenHigh := by
  rw [State.pin, high, mode]
  rfl

/-- HIGH leaves the pin undriven in OPEN_DRAIN (R34). -/
theorem pin_of_high_openDrain {s : State} {l : LineId} (high : (s.line l).level = .high)
    (mode : s.driveMode l = .openDrain) : s.pin l = .notDriven := by
  rw [State.pin, high, mode]
  rfl

/-- FLOAT leaves the pin undriven in both drive modes (R34). -/
theorem pin_of_float {s : State} {l : LineId} (float : (s.line l).level = .float) :
    s.pin l = .notDriven := by
  rw [State.pin, float]
  rfl

/-- LINE_STATUS changes nothing, and its third byte is the level as it was set (R34, R45). -/
theorem requestLineStatus_reports_level {c : ClientId} {s : State} (opened : s.isOpen c = true)
    (l : LineId) :
    ∃ result, requestLineStatus c [byteOf l.val] s = (s, .ok, result)
      ∧ result[2]? = some (levelCode (s.line l).level) :=
  ⟨_, whenOpen_withParams_some opened (parseLine_byteOf l) _, rfl⟩

/-- The execution of a LINE_STATUS that is held is what the request answers. -/
theorem exec_lineStatus_of_answer {s t : State} {j : EngineJob} {ps : List Byte} {status : Status}
    {result : List Byte} (held : Executing s j 0x24 ps)
    (answer : requestLineStatus j.client ps s = (t, status, result)) :
    exec .lineStatus s = .next (t.replied j status result) :=
  congrArg Host.Outcome.next (runRequest_of_answer held rfl answer)

/-- Settles O19: the pin by level and drive mode, the undriven pins from a reset until step 3 of the start
sequence, where every line is at FLOAT, and the level that LINE_STATUS reports. -/
theorem pinFollowsLevelAndDriveMode : Obligations.PinFollowsLevelAndDriveMode := by
  intro s l
  refine ⟨pin_of_low, pin_of_high_pushPull, pin_of_high_openDrain, pin_of_float,
    fun rest starting => pin_of_float (rest.floating starting l), fun j held opened => ?_⟩
  obtain ⟨result, answer, level⟩ := requestLineStatus_reports_level opened l
  exact ⟨result, exec_lineStatus_of_answer held answer, level⟩

/-! ## LEAVE_QUEUE -/

/-- A client stands outside a wait list exactly when no record of it is the client's. -/
theorem Line.awaitedBy_eq_false_iff (r : Line) (c : ClientId) :
    r.awaitedBy c = false ↔ ∀ w ∈ r.waiters, w.client ≠ c := by
  simp only [Line.awaitedBy, List.any_eq_false, beq_iff_eq, ne_eq]

/-- Taking a client out of a wait list in which it stands once removes its record and keeps the others in
their order. -/
theorem filter_waiters_of_once {c : ClientId} {ahead behind : List Waiter} {w : Waiter}
    (own : w.client = c) (others : ∀ v ∈ ahead ++ behind, v.client ≠ c) :
    (ahead ++ w :: behind).filter (fun v => v.client != c) = ahead ++ behind := by
  have kept : (ahead ++ behind).filter (fun v => v.client != c) = ahead ++ behind :=
    List.filter_eq_self.mpr fun v mem => bne_iff_ne.mpr (others v mem)
  have dropped : (w :: behind).filter (fun v => v.client != c) = behind.filter fun v => v.client != c :=
    List.filter_cons_of_neg (by simp [own])
  rw [List.filter_append, dropped, ← List.filter_append, kept]

/-- LEAVE_QUEUE on a line comes to the question whether the client stands in its wait list (R42). -/
theorem requestLeaveQueue_opened {c : ClientId} {s : State} (opened : s.isOpen c = true) (l : LineId) :
    requestLeaveQueue c [byteOf l.val] s
      = if (s.line l).awaitedBy c then
          (s.setLine l
            { s.line l with waiters := (s.line l).waiters.filter fun w => w.client != c }, .ok, [])
        else (s, .notFound, []) :=
  whenOpen_withParams_some opened (parseLine_byteOf l) _

/-- A client that is not in the line's wait list has no record to remove (R42). -/
theorem requestLeaveQueue_absent {c : ClientId} {s : State} {l : LineId} (opened : s.isOpen c = true)
    (absent : (s.line l).awaitedBy c = false) :
    requestLeaveQueue c [byteOf l.val] s = (s, .notFound, []) := by
  rw [requestLeaveQueue_opened opened, if_neg (by simp [absent])]

/-- A waiter's record is removed, and those behind it move up (R36, R42). -/
theorem requestLeaveQueue_waiter {c : ClientId} {s : State} {l : LineId} {ahead behind : List Waiter}
    {w : Waiter} (opened : s.isOpen c = true) (list : (s.line l).waiters = ahead ++ w :: behind)
    (own : w.client = c) (others : ∀ v ∈ ahead ++ behind, v.client ≠ c) :
    requestLeaveQueue c [byteOf l.val] s
      = (s.setLine l { s.line l with waiters := ahead ++ behind }, .ok, []) := by
  have waits : (s.line l).awaitedBy c = true := by
    rw [Line.awaitedBy, list]
    simp [own]
  rw [requestLeaveQueue_opened opened, if_pos waits, list, filter_waiters_of_once own others]

/-- The execution of a LEAVE_QUEUE that is held is what the request answers. -/
theorem exec_leaveQueue_of_answer {s t : State} {j : EngineJob} {ps : List Byte} {status : Status}
    {result : List Byte} (held : Executing s j 0x22 ps)
    (answer : requestLeaveQueue j.client ps s = (t, status, result)) :
    exec .leaveQueue s = .next (t.replied j status result) :=
  congrArg Host.Outcome.next (runRequest_of_answer held rfl answer)

/-- LEAVE_QUEUE refuses with NOT_OPEN, and then with INVALID (R137, R139). -/
theorem exec_leaveQueue_checks {s : State} {j : EngineJob} {ps : List Byte} (held : Executing s j 0x22 ps) :
    (s.isOpen j.client = false → exec .leaveQueue s = .next (s.replied j .notOpen []))
    ∧ (s.isOpen j.client = true → (∀ l : LineId, ps ≠ [byteOf l.val]) →
        exec .leaveQueue s = .next (s.replied j .invalid [])) :=
  ⟨fun closed => exec_leaveQueue_of_answer held (whenOpen_notOpen closed _),
    fun opened other =>
      exec_leaveQueue_of_answer held (whenOpen_withParams_none opened (parseLine_none other) _)⟩

/-- Settles O22: the checks, NOT_FOUND outside the wait list, where the holder of a line stands too (R36), and
the removal of a waiter's record. -/
theorem leaveQueueRemovesTheWaiter : Obligations.LeaveQueueRemovesTheWaiter := by
  refine ⟨fun _ _ _ held => exec_leaveQueue_checks held, fun s j l held opened =>
    ⟨fun absent => ?outside, fun owned holds => ?holder, fun ahead w behind list own others => ?waiter⟩⟩
  case outside =>
    exact exec_leaveQueue_of_answer held
      (requestLeaveQueue_absent opened ((Line.awaitedBy_eq_false_iff _ _).mpr absent))
  case holder =>
    exact exec_leaveQueue_of_answer held
      (requestLeaveQueue_absent opened (owned.holderNotWaiting l j.client holds))
  case waiter =>
    exact exec_leaveQueue_of_answer held (requestLeaveQueue_waiter opened list own others)

/-! ## DRIVE -/

/-- DRIVE on a line and with a level comes to the checks of R44. -/
theorem requestDrive_opened {c : ClientId} {s : State} (opened : s.isOpen c = true) (l : LineId)
    (level : Level) :
    requestDrive c [byteOf l.val, levelCode level] s
      = if !(s.line l).heldBy c then (s, .notHolder, [])
        else if s.supplyState = .hold then (s, .hold, [])
        else (s.setLine l { s.line l with level := level, pulse := none }, .ok,
          [levelCode (s.line l).level, flagCode (s.line l).pulse.isSome]) :=
  whenOpen_withParams_some opened ((parseDrive_eq_some_iff _ l level).mpr rfl) _

/-- The execution of a DRIVE that is held is what the request answers. -/
theorem exec_drive_of_answer {s t : State} {j : EngineJob} {ps : List Byte} {status : Status}
    {result : List Byte} (held : Executing s j 0x23 ps)
    (answer : requestDrive j.client ps s = (t, status, result)) :
    exec .drive s = .next (t.replied j status result) :=
  congrArg Host.Outcome.next (runRequest_of_answer held rfl answer)

/-- DRIVE of an OPEN client, by who holds the line and by the supply state (R44). -/
theorem exec_drive_by_holder {s : State} {j : EngineJob} {l : LineId} {level : Level}
    (held : Executing s j 0x23 [byteOf l.val, levelCode level]) (opened : s.isOpen j.client = true) :
    ((s.line l).heldBy j.client = false → exec .drive s = .next (s.replied j .notHolder []))
    ∧ ((s.line l).heldBy j.client = true → s.supplyState = .hold →
        exec .drive s = .next (s.replied j .hold []))
    ∧ ((s.line l).heldBy j.client = true → s.supplyState = .normal →
        exec .drive s
          = .next ((s.setLine l { s.line l with level := level, pulse := none }).replied j .ok
              [levelCode (s.line l).level, flagCode (s.line l).pulse.isSome])) := by
  have checks := requestDrive_opened opened l level
  refine ⟨fun other => exec_drive_of_answer held ?notHolder,
    fun holds hold => exec_drive_of_answer held ?hold,
    fun holds normal => exec_drive_of_answer held ?driven⟩
  case notHolder => rw [checks, if_pos (by simp [other])]
  case hold => rw [checks, if_neg (by simp [holds]), if_pos hold]
  case driven => rw [checks, if_neg (by simp [holds]), if_neg (by simp [normal])]

/-- Settles O23: the checks of R137 and R139, then those of R44, and the effect when all pass. -/
theorem driveSetsTheLevel : Obligations.DriveSetsTheLevel :=
  ⟨fun _ _ _ held closed => exec_drive_of_answer held (whenOpen_notOpen closed _),
    fun _ _ _ held opened other =>
      exec_drive_of_answer held (whenOpen_withParams_none opened (parseDrive_none other) _),
    fun _ _ _ _ held opened => exec_drive_by_holder held opened⟩

end Sys2Proof.Machine
end

section
/-!
PROOF. Entries and option images are read back from their bytes, and only such bytes are read (R56, R66, R171,
R179): for each part of a descriptor and of an image, which bytes are read as what.
-/

namespace Sys2Proof.Machine

/-! ## Numbers -/

/-- Reading bytes onto a number already read. -/
theorem beNat_onto (bs : List Byte) (acc : Nat) :
    bs.foldl (fun acc b => acc * 256 + b.toNat) acc = acc * 256 ^ bs.length + beNat bs := by
  induction bs generalizing acc with
  | nil => simp [beNat]
  | cons b bs ih =>
    simp only [beNat, List.foldl_cons, List.length_cons]
    rw [ih, ih (0 * 256 + b.toNat), pow_succ]
    ring

theorem beNat_cons (b : Byte) (bs : List Byte) : beNat (b :: bs) = b.toNat * 256 ^ bs.length + beNat bs := by
  have := beNat_onto bs (0 * 256 + b.toNat)
  simpa [beNat] using this

theorem beNat_lt (bs : List Byte) : beNat bs < 256 ^ bs.length := by
  induction bs with
  | nil => simp [beNat]
  | cons b bs ih =>
    rw [beNat_cons, List.length_cons, pow_succ]
    have := b.isLt
    nlinarith

/-- Bytes are those of the number that they spell. -/
theorem beBytes_beNat (bs : List Byte) : beBytes bs.length (beNat bs) = bs := by
  induction bs with
  | nil => rfl
  | cons b bs ih =>
    have lt := beNat_lt bs
    have high : (b.toNat * 256 ^ bs.length + beNat bs) / 256 ^ bs.length = b.toNat := by
      rw [Nat.mul_comm, Nat.mul_add_div (by positivity), Nat.div_eq_of_lt lt, Nat.add_zero]
    have low : (b.toNat * 256 ^ bs.length + beNat bs) % 256 ^ bs.length = beNat bs := by
      rw [Nat.mul_comm, Nat.mul_add_mod, Nat.mod_eq_of_lt lt]
    rw [beNat_cons, List.length_cons, beBytes, high, beBytes_mod, low, ih]
    simp

/-- A word is read back from its bytes. -/
theorem ofNat_beNat_beBytes {n : Nat} (w : Nat) (v : BitVec n) (h : 2 ^ n = 256 ^ w) :
    BitVec.ofNat n (beNat (beBytes w v.toNat)) = v := by
  rw [beNat_beBytes w _ (h ▸ v.isLt), BitVec.ofNat_toNat, BitVec.setWidth_eq]

/-- The word that bytes spell has their number. -/
theorem toNat_ofNat_beNat {n : Nat} (bs : List Byte) (h : 2 ^ n = 256 ^ bs.length) :
    (BitVec.ofNat n (beNat bs)).toNat = beNat bs := by
  rw [BitVec.toNat_ofNat, h, Nat.mod_eq_of_lt (beNat_lt bs)]

/-- Bytes are those of the word that they spell. -/
theorem beBytes_toNat_ofNat {n : Nat} (bs : List Byte) (h : 2 ^ n = 256 ^ bs.length) :
    beBytes bs.length (BitVec.ofNat n (beNat bs)).toNat = bs := by
  rw [toNat_ofNat_beNat bs h, beBytes_beNat]

/-! ## The parts of a descriptor -/

/-- The pulse bits of a parts byte, one by one. -/
theorem pulseBits_of_bits (parts : Byte) : parts &&& 0x03#8
    = if bitOf parts 0 then if bitOf parts 1 then 0x03 else 0x01
      else if bitOf parts 1 then 0x02 else 0x00 := by
  revert parts; decide

/-- An action with its pulse part is read back (R56, R179). -/
theorem parseAction_actionCode (a : Action) (parts : Byte) (rest : List Byte)
    (bits : parts &&& 0x03#8 = pulseBits a) (width : ∀ v w, a = .pulse v w → 1 ≤ w.toNat) :
    parseAction (actionCode a) parts (pulsePart a ++ rest) = some (a, rest) := by
  rw [pulseBits_of_bits] at bits
  unfold parseAction
  cases a with
  | pulse v w =>
    have read := ofNat_beNat_beBytes 2 w rfl
    have least : 1 ≤ beNat (beBytes 2 w.toNat) := by
      rw [beNat_beBytes 2 _ (by have := w.isLt; omega)]
      exact width v w rfl
    simp only [beBytes] at read least
    cases v <;> cases pulsed : bitOf parts 0 <;> cases level : bitOf parts 1 <;>
      simp_all [pulseBits, pulsePart, beBytes, actionCode]
  | setHigh | setLow | toggle | release =>
    cases pulsed : bitOf parts 0 <;> cases level : bitOf parts 1 <;>
      simp_all [pulseBits, pulsePart, actionCode]

/-- Only such bytes are read as an action (R56, R179). -/
theorem parseAction_some {code parts : Byte} {bytes rest : List Byte} {a : Action}
    (read : parseAction code parts bytes = some (a, rest)) :
    code = actionCode a ∧ parts &&& 0x03#8 = pulseBits a ∧ bytes = pulsePart a ++ rest
      ∧ ∀ v w, a = .pulse v w → 1 ≤ w.toNat := by
  rw [pulseBits_of_bits]
  unfold parseAction at read
  split at read
  next pulsed =>
    split at read
    next w1 w0 tail =>
      dsimp only at read
      split at read
      next valid =>
        simp only [Bool.and_eq_true, decide_eq_true_eq] at valid
        obtain ⟨rfl, rfl⟩ := Prod.mk.inj (Option.some.inj read)
        have part : beBytes 2 (BitVec.ofNat 16 (beNat [w1, w0])).toNat = [w1, w0] :=
          beBytes_toNat_ofNat [w1, w0] (by norm_num)
        refine ⟨valid.1, ?_, by rw [pulsePart, part]; rfl, ?_⟩
        · cases level : bitOf parts 1 <;> simp [pulsed, pulseBits]
        · rintro v w ⟨⟩
          rw [toNat_ofNat_beNat [w1, w0] (by norm_num)]
          exact valid.2
      next => cases read
    next => cases read
  next pulsed =>
    split at read
    next => cases read
    next level =>
      have none : (if bitOf parts 0 then if bitOf parts 1 then 0x03 else 0x01
          else if bitOf parts 1 then 0x02 else 0x00) = 0x00#8 := by simp [pulsed, level]
      rw [none]
      split_ifs at read with high low toggled released
      all_goals
        obtain ⟨rfl, rfl⟩ := Prod.mk.inj (Option.some.inj read)
        exact ⟨by assumption, rfl, rfl, by simp⟩

/-- A repeat count is read back from its bytes. -/
theorem count_of_countBytes (c : RepeatCount) (range : ∀ n, c = .times n → 2 ≤ n ∧ n ≤ 65535) :
    beNat (countBytes c) ≠ 1
      ∧ (if beNat (countBytes c) = 0 then RepeatCount.unlimited else .times (beNat (countBytes c))) = c := by
  cases c with
  | unlimited => simp [countBytes, beNat]
  | times n =>
    obtain ⟨least, most⟩ := range n rfl
    rw [countBytes, beNat_beBytes 2 n (by omega)]
    exact ⟨by omega, if_neg (by omega)⟩

theorem length_countBytes (c : RepeatCount) : (countBytes c).length = 2 := by
  cases c <;> rfl

/-- The ranges of a repeat in a descriptor (R56). -/
def RepeatInRange (r : Repeat) : Prop :=
  100 ≤ r.period.toNat ∧ ∀ n, r.count = .times n → 2 ≤ n ∧ n ≤ 65535

/-- A repeat part is read back (R56). -/
theorem parseRepeat_repeatPart (rep : Option Repeat) (parts : Byte) (rest : List Byte)
    (bit : bitOf parts 2 = rep.isSome) (range : ∀ r, rep = some r → RepeatInRange r) :
    parseRepeat parts (repeatPart rep ++ rest) = some (rep, rest) := by
  unfold parseRepeat
  rw [bit]
  cases rep with
  | none => rfl
  | some r =>
    obtain ⟨least, counts⟩ := range r rfl
    obtain ⟨notOne, count⟩ := count_of_countBytes r.count counts
    have period : BitVec.ofNat 32 (beNat (beBytes 4 r.period.toNat)) = r.period :=
      ofNat_beNat_beBytes 4 r.period rfl
    have long : ¬ beNat (beBytes 4 r.period.toNat) < 100 := by
      rw [beNat_beBytes 4 _ r.period.isLt]
      omega
    obtain ⟨c1, c0, two⟩ := List.length_eq_two.mp (length_countBytes r.count)
    rw [two] at count notOne
    simp only [beBytes] at period long
    simp only [Option.isSome_some, if_true, repeatPart, two, beBytes, List.cons_append, List.nil_append]
    rw [if_neg, count, period]
    simp only [Bool.or_eq_true, decide_eq_true_eq]
    exact not_or.mpr ⟨long, notOne⟩

/-- Only such bytes are read as a repeat part (R56). -/
theorem parseRepeat_some {parts : Byte} {bytes rest : List Byte} {rep : Option Repeat}
    (read : parseRepeat parts bytes = some (rep, rest)) :
    bitOf parts 2 = rep.isSome ∧ bytes = repeatPart rep ++ rest ∧ ∀ r, rep = some r → RepeatInRange r := by
  unfold parseRepeat at read
  split at read
  next bit =>
    split at read
    next p3 p2 p1 p0 c1 c0 tail =>
      dsimp only at read
      split at read
      next => cases read
      next valid =>
        simp only [Bool.or_eq_true, decide_eq_true_eq, not_or] at valid
        obtain ⟨rfl, rfl⟩ := Prod.mk.inj (Option.some.inj read)
        have most : beNat [c1, c0] < 65536 := by simpa using beNat_lt [c1, c0]
        have period : beBytes 4 (BitVec.ofNat 32 (beNat [p3, p2, p1, p0])).toNat = [p3, p2, p1, p0] :=
          beBytes_toNat_ofNat [p3, p2, p1, p0] (by norm_num)
        have count : countBytes (if beNat [c1, c0] = 0 then .unlimited else .times (beNat [c1, c0]))
            = [c1, c0] := by
          split
          next zero =>
            have spelled := beBytes_beNat [c1, c0]
            rw [zero] at spelled
            simpa [countBytes, beBytes] using spelled
          next => exact beBytes_beNat [c1, c0]
        refine ⟨bit, by rw [repeatPart, period, count]; rfl, ?_⟩
        rintro r ⟨⟩
        refine ⟨?_, fun n times => ?_⟩
        · rw [toNat_ofNat_beNat [p3, p2, p1, p0] (by norm_num)]
          omega
        · dsimp only at times
          split at times
          next => cases times
          next => cases times; omega
    next => cases read
  next bit =>
    obtain ⟨rfl, rfl⟩ := Prod.mk.inj (Option.some.inj read)
    exact ⟨by simpa using bit, rfl, by simp⟩

/-- A guard byte says its input and its level, and only such bytes do (12.2). -/
theorem guardByte_iff (g : Byte) (i : InputId) (v : PinLevel) :
    g = byteOf i.val ||| flagBit 4 (v == .high)
      ↔ g &&& 0xEC#8 = 0 ∧ g.toNat % 4 = i.val ∧ (if bitOf g 4 then .high else .low) = v := by
  revert g i; cases v <;> decide +kernel

/-- A guard part is read back. -/
theorem parseGuard_guardPart (guard : Option Guard) (parts : Byte) (rest : List Byte)
    (bit : bitOf parts 3 = guard.isSome) :
    parseGuard parts (guardPart guard ++ rest) = some (guard, rest) := by
  unfold parseGuard
  rw [bit]
  cases guard with
  | none => rfl
  | some g =>
    obtain ⟨zeros, input, level⟩ := (guardByte_iff _ g.input g.level).mp rfl
    simp only [Option.isSome_some, if_true, guardPart, List.cons_append, List.nil_append]
    rw [if_pos zeros, level]
    simp only [input, Fin.eta]

/-- Only such bytes are read as a guard part. -/
theorem parseGuard_some {parts : Byte} {bytes rest : List Byte} {guard : Option Guard}
    (read : parseGuard parts bytes = some (guard, rest)) :
    bitOf parts 3 = guard.isSome ∧ bytes = guardPart guard ++ rest := by
  unfold parseGuard at read
  split at read
  next bit =>
    split at read
    next g tail =>
      split at read
      next zeros =>
        obtain ⟨rfl, rfl⟩ := Prod.mk.inj (Option.some.inj read)
        exact ⟨bit, by rw [guardPart, ← (guardByte_iff g _ _).mpr ⟨zeros, rfl, rfl⟩]; rfl⟩
      next => cases read
    next => cases read
  next bit =>
    obtain ⟨rfl, rfl⟩ := Prod.mk.inj (Option.some.inj read)
    exact ⟨by simpa using bit, rfl⟩

/-! ## Descriptors -/

/-- A parts byte whose upper bits are 0 is made of the bits of its parts (12.2). -/
theorem partsByte_of_zeros (parts : Byte) (zeros : parts &&& 0xF0#8 = 0) :
    parts = parts &&& 0x03#8 ||| flagBit 2 (bitOf parts 2) ||| flagBit 3 (bitOf parts 3) := by
  revert parts; decide

/-- The bits of a parts byte (12.2). -/
theorem partsByte_bits (a : Action) (rep guard : Bool) :
    let parts := pulseBits a ||| flagBit 2 rep ||| flagBit 3 guard
    parts &&& 0x03#8 = pulseBits a ∧ bitOf parts 2 = rep ∧ bitOf parts 3 = guard ∧ parts &&& 0xF0#8 = 0 := by
  have bits : ∀ p ∈ ([0x00, 0x01, 0x03] : List Byte), ∀ rep guard : Bool,
      let parts := p ||| flagBit 2 rep ||| flagBit 3 guard
      parts &&& 0x03#8 = p ∧ bitOf parts 2 = rep ∧ bitOf parts 3 = guard ∧ parts &&& 0xF0#8 = 0 := by
    decide
  refine bits (pulseBits a) ?_ rep guard
  cases a with
  | pulse v w => cases v <;> simp [pulseBits]
  | setHigh | setLow | toggle | release => simp [pulseBits]

/-- A policy byte says the late policy, the strict flag and notify, and only such bytes do (12.2). -/
theorem policyByte_iff (policy : Byte) (late : LatePolicy) (strict : Bool) (notify : Notify) :
    policy = byteOf (latePolicyCode late) ||| flagBit 2 strict ||| byteOf (notifyCode notify * 8)
      ↔ policy &&& 0xE0#8 = 0 ∧ latePolicyOfCode (policy.toNat % 4) = some late
        ∧ notifyOfCode (policy.toNat / 8 % 4) = some notify ∧ bitOf policy 2 = strict := by
  revert policy strict; cases late <;> cases notify <;> decide +kernel

/-- A PULSE entry with a repeat has a period greater than its width. -/
theorem pulseFits_iff (a : Action) (rep : Option Repeat) :
    pulseFits a rep = true ↔ ∀ v w r, a = .pulse v w → rep = some r → w.toNat < r.period.toNat := by
  cases a <;> cases rep <;> simp [pulseFits]

/-- An entry in its ranges is read back from its descriptor (R56, R66). -/
theorem parseBooking_bookingBytes {b : Booking} (inRange : BookingInRange b) :
    parseBooking (bookingBytes b) = some b := by
  obtain ⟨width, rep, fits⟩ := inRange
  obtain ⟨pulse, repeats, guards, parts⟩ := partsByte_bits b.action b.rep.isSome b.guard.isSome
  obtain ⟨policy, late, notify, strict⟩ := (policyByte_iff _ b.late b.strict b.notify).mp rfl
  have due := ofNat_beNat_beBytes 6 b.due (by norm_num)
  have tag := ofNat_beNat_beBytes 2 b.tag (by norm_num)
  simp only [beBytes] at due tag
  unfold parseBooking bookingBytes
  simp only [beBytes, List.cons_append, List.nil_append, List.append_assoc]
  rw [lineOfCode_byteOf, late, notify, parseAction_actionCode _ _ _ pulse width]
  dsimp only
  rw [parseRepeat_repeatPart _ _ _ repeats rep]
  dsimp only
  rw [← List.append_nil (guardPart b.guard), parseGuard_guardPart _ _ _ guards]
  dsimp only
  rw [if_pos, due, tag, strict]
  simp only [parts, policy, (pulseFits_iff _ _).mpr fits, decide_true, Bool.and_self]

/-- Bytes that are read as an entry are the descriptor of an entry in its ranges (R56). -/
theorem parseBooking_some {bytes : List Byte} {b : Booking} (read : parseBooking bytes = some b) :
    BookingInRange b ∧ bytes = bookingBytes b := by
  unfold parseBooking at read
  split at read
  next l a parts policy d5 d4 d3 d2 d1 d0 t1 t0 tail =>
    split at read
    next line late notify action rest readLine readLate readNotify readAction =>
      split at read
      next rep rest' readRepeat =>
        split at read
        next guard readGuard =>
          split at read
          next valid =>
            simp only [Bool.and_eq_true, decide_eq_true_eq] at valid
            obtain ⟨⟨zeros, policyZeros⟩, fits⟩ := valid
            obtain ⟨rfl, pulse, rfl, width⟩ := parseAction_some readAction
            obtain ⟨repeats, rfl, rep⟩ := parseRepeat_some readRepeat
            obtain ⟨guards, rfl⟩ := parseGuard_some readGuard
            obtain rfl := Option.some.inj read
            have due : beBytes 6 (BitVec.ofNat 48 (beNat [d5, d4, d3, d2, d1, d0])).toNat
                = [d5, d4, d3, d2, d1, d0] := beBytes_toNat_ofNat [d5, d4, d3, d2, d1, d0] (by norm_num)
            have tag : beBytes 2 (BitVec.ofNat 16 (beNat [t1, t0])).toNat = [t1, t0] :=
              beBytes_toNat_ofNat [t1, t0] (by norm_num)
            have partsByte := partsByte_of_zeros parts zeros
            rw [pulse, repeats, guards] at partsByte
            have policyByte := (policyByte_iff policy late (bitOf policy 2) notify).mpr
              ⟨policyZeros, readLate, readNotify, rfl⟩
            refine ⟨⟨width, rep, (pulseFits_iff _ _).mp fits⟩, ?_⟩
            rw [bookingBytes]
            dsimp only
            rw [due, tag, ← partsByte, ← policyByte, ← (lineOfCode_eq_some_iff l line).mp readLine]
            simp
          next => cases read
        next => cases read
      next => cases read
    next => cases read
  next => cases read

/-! ## Option images -/

/-- A line byte says a level and a drive mode, and only such bytes do (12.4). -/
theorem parseLineByte_eq_some_iff (b : Byte) (v : Level) (m : DriveMode) :
    parseLineByte b = some (v, m) ↔ b = levelCode v ||| flagBit 4 (m == .openDrain) := by
  revert b; cases v <;> cases m <;> decide +kernel

/-- A settings byte says the enabled clients, the threshold and the start clock, and only such bytes do
(12.4). -/
theorem settingsByte_iff (set : Byte) (threshold : HoldThreshold) (e0 e1 e2 e3 backup : Bool) :
    set = (flagBit 0 e0 ||| flagBit 1 e1 ||| flagBit 2 e2 ||| flagBit 3 e3
        ||| byteOf (thresholdCode threshold * 16) ||| flagBit 6 backup)
      ↔ thresholdOfCode (set.toNat / 16 % 4) = some threshold ∧ bitOf set 7 = false ∧ bitOf set 0 = e0
        ∧ bitOf set 1 = e1 ∧ bitOf set 2 = e2 ∧ bitOf set 3 = e3 ∧ bitOf set 6 = backup := by
  revert set e0 e1 e2 e3 backup; cases threshold <;> decide +kernel

/-- A vector of four places, place by place. -/
theorem vector_four {α : Type} (v : Vector α 4) : v = #v[v[0], v[1], v[2], v[3]] := by
  ext i h
  rcases i with _ | _ | _ | _ | i
  · rfl
  · rfl
  · rfl
  · rfl
  · omega

/-- A vector of eight places, place by place. -/
theorem vector_eight {α : Type} (v : Vector α 8) :
    v = #v[v[0], v[1], v[2], v[3], v[4], v[5], v[6], v[7]] := by
  ext i h
  rcases i with _ | _ | _ | _ | _ | _ | _ | _ | i
  · rfl
  · rfl
  · rfl
  · rfl
  · rfl
  · rfl
  · rfl
  · rfl
  · omega

theorem toList_four {α : Type} (v : Vector α 4) : v.toList = [v[0], v[1], v[2], v[3]] :=
  congrArg Vector.toList (vector_four v)

/-- Four small numbers are read back from their bytes. -/
theorem toNat_byteOf_four (v : Vector Nat 4) (small : ∀ i : Fin 4, v[i.val] ≤ 255) :
    (byteOf v[0]).toNat = v[0] ∧ (byteOf v[1]).toNat = v[1] ∧ (byteOf v[2]).toNat = v[2]
      ∧ (byteOf v[3]).toNat = v[3] := by
  have read : ∀ i : Fin 4, (byteOf v[i.val]).toNat = v[i.val] := fun i =>
    toNat_byteOf _ (Nat.lt_of_le_of_lt (small i) (by omega))
  exact ⟨read 0, read 1, read 2, read 3⟩

/-- The line byte of an image (12.4). -/
def lineByte (o : Options) (l : LineId) : Byte :=
  levelCode o.idle[l.val] ||| flagBit 4 (o.drive[l.val] == .openDrain)

theorem parseLineByte_lineByte (o : Options) (l : LineId) :
    parseLineByte (lineByte o l) = some (o.idle[l.val], o.drive[l.val]) :=
  (parseLineByte_eq_some_iff _ _ _).mpr rfl

/-- The bytes of an image, one by one (12.4). -/
theorem imageBytes_eq (o : Options) : imageBytes o =
    [o.address2, o.address3,
      flagBit 0 o.enabled[0] ||| flagBit 1 o.enabled[1] ||| flagBit 2 o.enabled[2] ||| flagBit 3 o.enabled[3]
        ||| byteOf (thresholdCode o.threshold * 16) ||| flagBit 6 (o.startClock == .backup),
      byteOf o.shares[0], byteOf o.shares[1], byteOf o.shares[2], byteOf o.shares[3],
      lineByte o 0, lineByte o 1, lineByte o 2, lineByte o 3, lineByte o 4, lineByte o 5, lineByte o 6,
      lineByte o 7, byteOf o.filters[0], byteOf o.filters[1], byteOf o.filters[2], byteOf o.filters[3],
      byteOf o.syncFilter] ++ List.replicate 8 0x00 := by
  rw [imageBytes, toList_four, toList_four]
  rfl

/-- An option image with fields in range is read back from its 28 bytes (R171). -/
theorem parseImage_imageBytes {o : Options} (inRange : FieldsInRange o) :
    parseImage (imageBytes o) = some o := by
  obtain ⟨share, sum, filters, syncFilter⟩ := inRange
  obtain ⟨threshold, seventh, e0, e1, e2, e3, backup⟩ := (settingsByte_iff _ o.threshold o.enabled[0]
    o.enabled[1] o.enabled[2] o.enabled[3] (o.startClock == .backup)).mp rfl
  obtain ⟨s0, s1, s2, s3⟩ := toNat_byteOf_four o.shares fun c => Nat.le_trans (share c) (by omega)
  obtain ⟨f0, f1, f2, f3⟩ := toNat_byteOf_four o.filters filters
  have start : (if o.startClock == Oscillator.backup then Oscillator.backup else .main) = o.startClock := by
    cases o.startClock <;> rfl
  rw [imageBytes_eq]
  simp only [parseImage, List.cons_append, List.nil_append, threshold, parseLineByte_lineByte, seventh, e0, e1,
    e2, e3, backup]
  rw [if_pos, s0, s1, s2, s3, f0, f1, f2, f3, toNat_byteOf _ (by omega : o.syncFilter < 256), start]
  · congr 1
    cases o
    simp only [Options.mk.injEq, true_and, and_true]
    exact ⟨(vector_four _).symm, (vector_four _).symm, (vector_eight _).symm, (vector_eight _).symm,
      (vector_four _).symm⟩
  · have m0 : o.shares[0] ≤ 64 := share 0
    have m1 : o.shares[1] ≤ 64 := share 1
    have m2 : o.shares[2] ≤ 64 := share 2
    have m3 : o.shares[3] ≤ 64 := share 3
    rw [s0, s1, s2, s3]
    simp only [m0, m1, m2, m3, sum, decide_true, Bool.and_true, Bool.not_false, beq_self_eq_true]

/-- Bytes that are read as an image are those of one with fields in range (R171). -/
theorem parseImage_some {bytes : List Byte} {o : Options} (read : parseImage bytes = some o) :
    FieldsInRange o ∧ bytes = imageBytes o := by
  unfold parseImage at read
  split at read
  next a2 a3 set s0 s1 s2 s3 l0 l1 l2 l3 l4 l5 l6 l7 f0 f1 f2 f3 fs zeros =>
    split at read
    next threshold p0 p1 p2 p3 p4 p5 p6 p7 readThreshold r0 r1 r2 r3 r4 r5 r6 r7 =>
      split at read
      next valid =>
        simp only [Bool.and_eq_true, decide_eq_true_eq, Bool.not_eq_true', beq_iff_eq] at valid
        obtain ⟨⟨⟨⟨⟨⟨seventh, rfl⟩, m0⟩, m1⟩, m2⟩, m3⟩, sum⟩ := valid
        have settings := (settingsByte_iff set threshold _ _ _ _ _).mpr
          ⟨readThreshold, seventh, rfl, rfl, rfl, rfl, rfl⟩
        have start : ((if bitOf set 6 = true then Oscillator.backup else .main) == .backup)
            = bitOf set 6 := by cases bitOf set 6 <;> rfl
        have byte : ∀ b : Byte, b = byteOf b.toNat := fun b => by simp [byteOf]
        have line := fun b (p : Level × DriveMode) => (parseLineByte_eq_some_iff b p.1 p.2).mp
        obtain rfl := Option.some.inj read
        refine ⟨⟨?_, sum, ?_, ?_⟩, ?_⟩
        · intro c
          fin_cases c
          · exact m0
          · exact m1
          · exact m2
          · exact m3
        · intro i
          have := f0.isLt
          have := f1.isLt
          have := f2.isLt
          have := f3.isLt
          fin_cases i <;> simp <;> omega
        · have := fs.isLt
          simp only
          omega
        · rw [imageBytes_eq]
          simp only [List.cons_append, List.nil_append, List.cons.injEq, true_and, and_true, start]
          exact ⟨settings, byte s0, byte s1, byte s2, byte s3, line l0 p0 r0, line l1 p1 r1, line l2 p2 r2,
            line l3 p3 r3, line l4 p4 r4, line l5 p5 r5, line l6 p6 r6, line l7 p7 r7, byte f0, byte f1,
            byte f2, byte f3, byte fs⟩
      next => cases read
    next => cases read
  next => cases read

/-- Settles O51: each direction for descriptors and for images. -/
theorem descriptorsAndImagesReadBack : Obligations.DescriptorsAndImagesReadBack :=
  ⟨fun _ inRange => parseBooking_bookingBytes inRange, fun _ _ read => parseBooking_some read,
    fun _ inRange => parseImage_imageBytes inRange, fun _ _ read => parseImage_some read⟩

end Sys2Proof.Machine
end

section
/-!
PROOF. What a step of the device can do, said once: the moves that touch what the invariants read, each with what
is known where the device makes it, and the steps as sequences of such moves. An invariant then needs one case for
each move that touches what it reads.
-/

namespace Sys2Proof.Machine

/-! ## The moves -/

/-- A line that its holder's lease has left: its head waiter holds it, or it is FREE at its idle level (R39 to
R41). -/
def Line.handedOn (supply : SupplyState) (idle : Level) (r : Line) : Line :=
  match r.waiters with
  | w :: ws =>
    { lease := some { client := w.client, park := w.park },
      level := grantLevel supply w.park r.level, pulse := none, waiters := ws }
  | [] => { lease := none, level := idle, pulse := none, waiters := [] }

/-- What may become of one client's record, but for the opening and the end of its session, an accepted edge and
the engine's own changes. -/
inductive RecordMove (run : Count) (r : Client) : Client → Prop where
  /-- A notice is posted to an OPEN client (R126). -/
  | post (kind : NoticeKind) (subject : BitVec 16) (detail : NoticeDetail) (tag : BitVec 16)
      (opened : r.isOpen = true) :
      RecordMove run r
        { r with notices := (postInto run kind subject detail tag r.notices).1,
                 lost := r.lost || (postInto run kind subject detail tag r.notices).2 }
  /-- The port marks change (R152). -/
  | marks (m : Marks) : RecordMove run r { r with marks := m }
  /-- A frame is placed in the request slot (R133). -/
  | place (f : Frame) : RecordMove run r { r with request := some f }
  /-- The subscriptions of an OPEN client change (R103). -/
  | subscribe (subs : Vector (Option EdgeChoice) 4) (opened : r.isOpen = true) :
      RecordMove run r { r with subs := subs }
  /-- The oldest notices are taken (R128). -/
  | takeNotices (n : Nat) : RecordMove run r { r with notices := r.notices.drop n, lost := false }
  /-- The oldest captures are taken (R109). -/
  | takeCaptures (n : Nat) : RecordMove run r { r with captures := r.captures.drop n }
  /-- An OPEN session's keepalive is renewed, or its mask replaced (R115, R119). -/
  | renew (d d' : SessionData) (opened : r.session = .opened d) (period : d'.period = d.period)
      (deadline : d'.deadline = d.deadline ∨ d'.deadline = deadlineFrom run d.period) :
      RecordMove run r { r with session := .opened d' }

/-- What may become of a line whose lease stays: the pulse may end and waiters may leave; a FREE line on which no
entry stands, and in a hold a HELD line, change their level and pulse only by the end of a pulse in flight or by
parking (R35, R53). -/
structure LineMove (s : State) (l : LineId) (r r' : Line) : Prop where
  /-- The lease stays. -/
  lease : r'.lease = r.lease
  /-- Waiters may leave the wait list, and none enters it. -/
  waiters : r'.waiters.Sublist r.waiters
  /-- A FREE line with no pulse in flight and no entry keeps its level. -/
  free : r.lease = none → r.pulse = none → (∀ k e, s.slot k = some e → e.body.line ≠ l) →
    r'.level = r.level ∧ r'.pulse = none
  /-- In a hold a HELD line with no pulse in flight keeps its level or goes to its park level. -/
  held : s.supplyState = .hold → ∀ lease, r.lease = some lease → r.pulse = none →
    (r'.level = r.level ∨ r'.level = lease.park) ∧ r'.pulse = none

/-- A client of whom nothing is left but its session, its queues and its slots (R121). -/
structure ReadyToClear (c : ClientId) (s : State) : Prop where
  /-- The client is OPEN. -/
  opened : s.isOpen c = true
  /-- It does not hold the authority. -/
  authority : s.authority ≠ some c
  /-- It holds no line and stands in no wait list. -/
  lines : ∀ l, (s.line l).heldBy c = false ∧ (s.line l).awaitedBy c = false
  /-- It has no subscription. -/
  subs : (s.client c).subs = Vector.replicate 4 none

/-- One move of the running device that leaves the engine, the timebase count and the dues as they are. -/
inductive Move (s : State) : State → Prop where
  /-- What no invariant reads. -/
  | unread (timeState : TimeState) (divider : Fin 8) (restartProgress : Nat) (startWindow : Option Nat)
      (missingCycles : Nat) (proving : Option Proving) (sync : SyncFilter) (inputs : Vector Input 4)
      (rawInputs : Vector PinLevel 4) (rawSync : PinLevel) (pointer : ClientId) (fourWire : FourWirePort)
      (selA selB : Bool) (twoWire : TwoWirePort) (sdaAck : Bool) (supplyUv : Nat)
      (powerUpFlag collapseLatch : Bool) (resetn : PinLevel) (lastReset : ResetCause)
      (optionStatus : OptionStatus) (copyA copyB : List Byte) (freeCount : Nat) :
      Move s
        { s with
          timeState := timeState, divider := divider, restartProgress := restartProgress,
          startWindow := startWindow, missingCycles := missingCycles, proving := proving, sync := sync,
          inputs := inputs, rawInputs := rawInputs, rawSync := rawSync, pointer := pointer,
          fourWire := fourWire, selA := selA, selB := selB, twoWire := twoWire, sdaAck := sdaAck,
          supplyUv := supplyUv, powerUpFlag := powerUpFlag, collapseLatch := collapseLatch,
          resetn := resetn, lastReset := lastReset, optionStatus := optionStatus, copyA := copyA,
          copyB := copyB, freeCount := freeCount }
  /-- One client's record. -/
  | record (c : ClientId) (r : Client) (change : RecordMove s.run (s.client c) r) : Move s (s.setClient c r)
  /-- A session begins, or is opened anew (R114). -/
  | openSession (c : ClientId) (period : Nat) (mask : AttentionMask) (running : s.phase = .running)
      (least : 10 ≤ period) (most : period ≤ 60000) :
      Move s (s.setClient c
        { s.client c with
          session := .opened { period := period, deadline := deadlineFrom s.run period, mask := mask } })
  /-- An accepted edge is delivered (R101). -/
  | edge (i : InputId) (latch : Latch) : Move s (acceptEdge i latch s)
  /-- A session ends (R121). -/
  | clear (c : ClientId) (after : Session) (ended : after = .closed ∨ after = .lapsed)
      (ready : ReadyToClear c s) : Move s (clearClient c after s)
  /-- The authority token and the armed load (R18). -/
  | token (authority : Option ClientId) (armed : Option ArmedLoad)
      (holder : ∀ c, authority = some c → s.authority = some c ∨ s.isOpen c = true)
      (held : armed.isSome = true → authority.isSome = true) :
      Move s { s with authority := authority, armed := armed }
  /-- Lines whose leases stay. -/
  | lines (v : Vector Line 8) (change : ∀ l : LineId, LineMove s l (s.line l) v[l.val]) :
      Move s { s with lines := v }
  /-- A FREE line is granted (R37, R39). -/
  | acquire (l : LineId) (c : ClientId) (park : Level) (running : s.phase = .running)
      (free : (s.line l).lease = none) (opened : s.isOpen c = true) :
      Move s (s.setLine l
        { s.line l with lease := some { client := c, park := park },
                        level := grantLevel s.supplyState park (s.line l).level })
  /-- A client enters a wait list (R37). -/
  | enqueue (l : LineId) (c : ClientId) (park : Level) (lease : Lease)
      (leased : (s.line l).lease = some lease) (other : lease.client ≠ c)
      (outside : (s.line l).awaitedBy c = false) (room : (s.line l).waiters.length < 3)
      (opened : s.isOpen c = true) :
      Move s (s.setLine l
        { s.line l with waiters := (s.line l).waiters ++ [{ client := c, park := park }] })
  /-- The lease of a line ends on which its holder has no entry (R39 to R41). -/
  | handOn (l : LineId) (c : ClientId) (held : (s.line l).heldBy c = true)
      (bare : ∀ k e, s.slot k = some e → e.owner = c → e.body.line ≠ l) :
      Move s (s.setLine l ((s.line l).handedOn s.supplyState (s.idleLevel l)))
  /-- A supply hold begins (R53, R163). -/
  | enterHold (normal : s.supplyState = .normal) (confirmed : s.holdFilterConfirmed = true) :
      Move s (parkLines { s with supplyState := .hold, holdFilter := none })
  /-- Entries are removed (R68). -/
  | remove (v : Vector (Option Entry) 64) (change : ∀ k : SlotId, v[k.val] = none ∨ v[k.val] = s.slot k) :
      Move s { s with slots := v }
  /-- An entry whose checks have passed is booked (R60, R63). -/
  | book (c : ClientId) (b : Booking) (k : SlotId) (running : s.phase = .running)
      (empty : s.slot k = none) (inRange : BookingInRange b) (passed : bookingStatus c b s = none) :
      Move s (insertAtSlot c b k s)
  /-- A store is accepted (R173). -/
  | store (job : StoreJob) (recordA recordB : CopyRecord) (running : s.phase = .running)
      (targetA : job.target = .a → recordA.good = false) (targetB : job.target = .b → recordB.good = false) :
      Move s { s with recordA := recordA, recordB := recordB, store := some job }
  /-- A store is over (R174). -/
  | endStore (recordA recordB : CopyRecord) :
      Move s { s with recordA := recordA, recordB := recordB, store := none }
  /-- The monitor looks at the supply, once ticks have begun (R163, R164). -/
  | filter (latched : Option Count) (sampled : s.sampled = true)
      (looked : latched = none ∨ latched = some (s.holdFilter.getD s.run)) :
      Move s { s with holdFilter := latched }
  /-- The clock state changes, and the quality does not become DEGRADED (R8, R12). -/
  | clock (k : ClockState) (quality : s.quality = .degraded ∨ k = .main) :
      Move s { s with clock := some k }

/-- What the calendar, the counts and the supply do within an event that is larger than one move. -/
inductive Shift (s : State) : State → Prop where
  /-- An entry is brought forward (R71, R87). -/
  | advance (k : SlotId) (e : Entry) (n : Nat) (b : Booking) (held : s.slot k = some e)
      (left : (consume e.body n).1 = some b) : Shift s (s.setSlot k (some { e with body := b }))
  /-- The timebase count is replaced (R5). -/
  | retime (new : Count) : Shift s { s with timebase := new }
  /-- A supply hold ends (R164). -/
  | leave : Shift s { s with supplyState := .normal, holdFilter := none }
  /-- The clock state changes (R8). -/
  | clock (k : ClockState) : Shift s { s with clock := some k }

/-- What the running device does apart from its engine's own changes. -/
inductive Effect (s : State) : State → Prop where
  /-- One move. -/
  | move {t : State} (h : Move s t) : Effect s t
  /-- An occurrence (R81). -/
  | occurrence (k : SlotId) : Effect s (takeOccurrence k s)
  /-- A step of the timebase count that passes its checks (R26). -/
  | timeStep (new : Count) (allowed : stepAllowed new s = true) : Effect s (timeStep new s)
  /-- A supply hold ends (R164). -/
  | leaveHold (hold : s.supplyState = .hold) (confirmed : s.holdFilterConfirmed = true) :
      Effect s (leaveHold s)
  /-- A failover (R10). -/
  | failover (due : s.failoverDue = true) : Effect s (failover s)

/-- The engine's own changes (R134, R135). -/
inductive EngineMove (s : State) : State → Prop where
  /-- The request held is executed. -/
  | answer (j : EngineJob) (outcome : Option (Status × List Byte)) (held : s.engine = some j) :
      EngineMove s { s with engine := some { j with outcome := outcome } }
  /-- A frame leaves its request slot. -/
  | dequeue (c : ClientId) :
      EngineMove s ({ s with choice := none }.modifyClient c fun r => { r with request := none })
  /-- The free engine chooses. -/
  | choose (free : s.engine = none) : EngineMove s (freeEngine s)
  /-- The free engine holds a request. -/
  | hold (c : ClientId) (f : Frame) (running : s.phase = .running) (free : s.engine = none)
      (unchosen : s.choice = none) :
      EngineMove s
        { s.modifyClient c fun r => { r with response := .pending f.sequence f.kind } with
          engine := some { client := c, frame := f, takenAt := s.run, outcome := none } }
  /-- The request held completes. -/
  | complete (j : EngineJob) (response : Response) (held : s.engine = some j) :
      EngineMove s (freeEngine (s.modifyClient j.client fun r =>
        { r with response := .done j.frame.sequence j.frame.kind response }))

/-- What the running device does between two ticks. -/
inductive Event (s : State) : State → Prop where
  /-- Apart from its engine's own changes. -/
  | effect {t : State} (h : Effect s t) : Event s t
  /-- The engine's own changes. -/
  | engine {t : State} (h : EngineMove s t) : Event s t

/-- A reset and the steps of the start sequence, but for what no invariant reads (R177, R178). -/
inductive Boot (s : State) : State → Prop where
  /-- A reset. -/
  | reset : Boot s { State.reset with pending := s.pending }
  /-- Step 1. -/
  | start (held : s.phase = .heldInReset) : Boot s { s with phase := .beforeOptionLoad }
  /-- Steps 2 and 3. -/
  | optionLoad (before : s.phase = .beforeOptionLoad) : Boot s (optionLoad s)
  /-- Steps 4 and 5. -/
  | clockStart (k : ClockState) (before : s.phase = .beforeClockStart) :
      Boot s { s with clock := some k, timebase := 0, run := 0, phase := .running }

/-- What a tick does to the counts (R1 to R3, R98). -/
def counted (s : State) : State :=
  { s with timebase := s.timebase + 1, run := s.run + 1, sampled := true }

/-- Some moves and shifts. -/
abbrev Shifts : State → State → Prop := Relation.ReflTransGen fun s t => Move s t ∨ Shift s t

/-- Some effects. -/
abbrev Effects : State → State → Prop := Relation.ReflTransGen Effect

/-- Some events. -/
abbrev Events : State → State → Prop := Relation.ReflTransGen Event

/-- A reset and a start step are of the device's life as its events are. -/
abbrev Life (s t : State) : Prop := Event s t ∨ Boot s t

/-- Some events, resets and start steps. -/
abbrev Lives : State → State → Prop := Relation.ReflTransGen Life

/-- Some events of the running device with `n` ticks between them, each tick after everything due has been
taken. -/
inductive Passed (s : State) : Nat → State → Prop where
  /-- Nothing yet. -/
  | start : Passed s 0 s
  /-- An event. -/
  | event {n : Nat} {t u : State} (before : Passed s n t) (h : Event t u) : Passed s n u
  /-- A tick. -/
  | tick {n : Nat} {t : State} (running : t.phase = .running) (before : Passed s n t) :
      Passed s (n + 1) (counted (settle t))

theorem Move.effects {s t : State} (h : Move s t) : Effects s t := .single (.move h)

theorem Effects.events {s t : State} (h : Effects s t) : Events s t :=
  Relation.ReflTransGen.mono (fun _ _ => Event.effect) _ _ h

theorem Move.events {s t : State} (h : Move s t) : Events s t := .single (.effect (.move h))

theorem EngineMove.events {s t : State} (h : EngineMove s t) : Events s t := .single (.engine h)

/-- What one step of a sequence keeps, the sequence keeps. -/
theorem reflTransGen_keeps {α : Type} {R : α → α → Prop} {P : α → Prop} {s t : α}
    (step : ∀ s t, R s t → P s → P t) (h : Relation.ReflTransGen R s t) (hs : P s) : P t := by
  induction h with
  | refl => exact hs
  | tail _ last ih => exact step _ _ last ih

/-! ## Postings -/

/-- A posting is a move of one client's record, or nothing (R126). -/
theorem postNotice_effects (c : ClientId) (kind : NoticeKind) (subject : BitVec 16) (detail : NoticeDetail)
    (tag : BitVec 16) (s : State) : Effects s (postNotice c kind subject detail tag s) := by
  unfold postNotice
  split
  next opened => exact (Move.record c _ (.post kind subject detail tag opened)).effects
  next => exact .refl

/-- What each step of a fold does in sequence, the fold does. -/
theorem foldl_reaches {α β : Type} {R : β → β → Prop} (f : β → α → β) (l : List α) (b : β)
    (step : ∀ b a, a ∈ l → Relation.ReflTransGen R b (f b a)) : Relation.ReflTransGen R b (l.foldl f b) :=
  foldl_keeps (Relation.ReflTransGen R b) f l b (fun u a mem h => h.trans (step u a mem)) .refl

theorem postAll_effects (kind : NoticeKind) (detail : NoticeDetail) (s : State) :
    Effects s (postAll kind detail s) :=
  foldl_reaches _ _ _ fun _ _ _ => postNotice_effects ..

end Sys2Proof.Machine
end

section
/-!
PROOF. The larger events of the calendar, the time and the supply as sequences of moves and shifts: for an invariant
that is kept by each of these, nothing more has to be said of the events.
-/

namespace Sys2Proof.Machine

theorem Move.shifts {s t : State} (h : Move s t) : Shifts s t := .single (.inl h)

theorem Shift.shifts {s t : State} (h : Shift s t) : Shifts s t := .single (.inr h)

theorem postNotice_shifts (c : ClientId) (kind : NoticeKind) (subject : BitVec 16) (detail : NoticeDetail)
    (tag : BitVec 16) (s : State) : Shifts s (postNotice c kind subject detail tag s) := by
  unfold postNotice
  split
  next opened => exact (Move.record c _ (.post kind subject detail tag opened)).shifts
  next => exact .refl

theorem postAll_shifts (kind : NoticeKind) (detail : NoticeDetail) (s : State) :
    Shifts s (postAll kind detail s) :=
  foldl_reaches _ _ _ fun _ _ _ => postNotice_shifts ..

theorem postFired_shifts (e : Entry) (outcome : FireOutcome) (remaining : RepeatCount) (last : Bool)
    (s : State) : Shifts s (postFired e outcome remaining last s) := by
  unfold postFired
  split
  · exact .refl
  · exact postNotice_shifts ..
  · split
    · exact postNotice_shifts ..
    · exact .refl

theorem postWithdrawn_shifts (e : Entry) (reason : WithdrawReason) (s : State) :
    Shifts s (postWithdrawn e reason s) := by
  unfold postWithdrawn
  split
  · exact .refl
  · exact postNotice_shifts ..
  · exact postNotice_shifts ..

/-- An emptied slot is a removal (R68). -/
theorem Move.emptySlot (s : State) (k : SlotId) : Move s (s.setSlot k none) := by
  refine .remove _ fun m => ?_
  by_cases same : k.val = m.val
  · exact .inl (by simp [same])
  · exact .inr (Vector.getElem_set_ne _ _ same)

/-- One line that changes alone. -/
theorem Move.setLine {s : State} {l : LineId} {r : Line} (change : LineMove s l (s.line l) r) :
    Move s (s.setLine l r) := by
  refine .lines _ fun m => ?_
  by_cases same : l.val = m.val
  · obtain rfl := Fin.ext same
    simpa using change
  · rw [Vector.getElem_set_ne _ _ same]
    exact ⟨rfl, .refl _, fun _ pulse _ => ⟨rfl, pulse⟩, fun _ _ _ pulse => ⟨.inl rfl, pulse⟩⟩

/-- A free value is used (log 7). -/
theorem Move.useFree (s : State) (n : Nat) : Move s (s.useFree n) := by
  apply Move.unread

/-- The action of an entry reaches its line, outside a hold (R46). -/
theorem applyEntry_shifts {k : SlotId} {e : Entry} {s : State} (held : s.slot k = some e)
    (normal : s.supplyState = .normal) : Shifts s (applyEntry e s) := by
  unfold applyEntry
  split
  · refine (Move.setLine ?_).shifts
    constructor
    · cases e.body.action <;> rfl
    · cases e.body.action <;> exact .refl _
    · exact fun _ _ bare => absurd rfl (bare k e held)
    · intro hold
      rw [normal] at hold
      cases hold
  · exact .refl

theorem applyEntry_slot (e : Entry) (s : State) (k : SlotId) : (applyEntry e s).slot k = s.slot k := by
  unfold applyEntry
  split
  · exact slot_setLine ..
  · rfl

/-- An entry is brought forward or removed, and FIRED posted (R71, R75, R87). -/
theorem advanceEntry_shifts {k : SlotId} {e : Entry} {s : State} (held : s.slot k = some e) (n : Nat)
    (outcome : FireOutcome) : Shifts s (advanceEntry k e n outcome s) := by
  have slotted : Shifts s (s.setSlot k ((consume e.body n).1.map fun b => { e with body := b })) := by
    cases left : (consume e.body n).1 with
    | none => exact (Move.emptySlot s k).shifts
    | some b => exact (Shift.advance k e n b held left).shifts
  exact slotted.trans (postFired_shifts ..)

theorem takeOccurrence_shifts (k : SlotId) (s : State) : Shifts s (takeOccurrence k s) := by
  unfold takeOccurrence
  split
  next e held =>
    split
    next due =>
      have normal : s.supplyState = .normal := by
        simp only [isDue, Bool.and_eq_true, beq_iff_eq] at due
        exact due.1
      exact (applyEntry_shifts held normal).trans
        (advanceEntry_shifts ((applyEntry_slot ..).trans held) _ _)
    next => exact .refl
  next => exact .refl

/-- The resolution of one late entry, outside a hold (R71 to R75). -/
theorem resolveEntry_shifts (k : SlotId) {s : State} (normal : s.supplyState = .normal) :
    Shifts s (resolveEntry k s) := by
  unfold resolveEntry
  split
  next => exact .refl
  next e held =>
    split
    next =>
      split
      · exact (applyEntry_shifts held normal).trans
          (advanceEntry_shifts ((applyEntry_slot ..).trans held) _ _)
      · exact advanceEntry_shifts held _ _
      · exact (Move.emptySlot s k).shifts.trans (postWithdrawn_shifts ..)
    next => exact .refl

/-- The calendar's own events leave the supply state as it is. -/
theorem CalendarMoved.supplyState {s t : State} (h : CalendarMoved s t) : t.supplyState = s.supplyState :=
  h.same State.supplyState fun _ _ _ _ _ => rfl

/-- The occurrences at distance 0 (R70). -/
theorem takeDueOccurrences_shifts (s : State) : Shifts s (takeDueOccurrences s) :=
  (Move.useFree s _).shifts.trans (foldl_reaches _ _ _ fun u k _ => takeOccurrence_shifts k u)

/-- A late resolution outside a hold (R69, R70). -/
theorem resolveLate_shifts {s : State} (normal : s.supplyState = .normal) : Shifts s (resolveLate s) := by
  have late : ∀ ks : List SlotId, Shifts s (ks.foldl (fun u k => resolveEntry k u) s) := fun ks =>
    (foldl_keeps (fun u => Shifts s u ∧ u.supplyState = .normal) _ ks s
      (fun u k _ ⟨reached, open_⟩ => ⟨reached.trans (resolveEntry_shifts k open_),
        (resolveEntry_moved k u).supplyState.trans open_⟩) ⟨.refl, normal⟩).1
  unfold resolveLate
  exact (late _).trans (takeDueOccurrences_shifts _)

/-- A step of the timebase count (R5, R26). -/
theorem timeStep_shifts (new : Count) (s : State) : Shifts s (timeStep new s) := by
  have posted : Shifts s (postAll .shifted
      (.shifted (stepOf s.timebase new).1 (shiftedMagnitude (stepOf s.timebase new).2))
      { s with timebase := new, timeState := .set }) := by
    refine (Shift.retime new).shifts.trans (Relation.ReflTransGen.trans ?_ (postAll_shifts ..))
    exact Move.shifts (by apply Move.unread)
  unfold timeStep
  dsimp only
  split
  next forward => exact posted.trans (resolveLate_shifts forward.2)
  next => exact posted

/-- The end of a supply hold (R164). -/
theorem leaveHold_shifts (s : State) : Shifts s (leaveHold s) :=
  (Shift.leave.shifts.trans (postAll_shifts ..)).trans
    (resolveLate_shifts (CalendarMoved.of_onlyNotices (postAll_onlyNotices ..)).supplyState)

theorem withdrawStrict_shifts (s : State) : Shifts s (withdrawStrict s) :=
  foldl_reaches _ _ _ fun u p _ => (Move.emptySlot u p.1).shifts.trans (postWithdrawn_shifts ..)

/-- A failover (R10). -/
theorem failover_shifts (s : State) : Shifts s (failover s) := by
  unfold failover
  split
  · refine Relation.ReflTransGen.trans ?_ ((postAll_shifts ..).trans (withdrawStrict_shifts _))
    refine (Shift.clock .backup).shifts.trans (Move.shifts ?_)
    apply Move.unread
  · exact .refl

/-- Every effect is a sequence of moves and shifts. -/
theorem Effect.shifts {s t : State} (h : Effect s t) : Shifts s t := by
  cases h with
  | move h => exact h.shifts
  | occurrence k => exact takeOccurrence_shifts k s
  | timeStep new _ => exact timeStep_shifts new s
  | leaveHold _ _ => exact leaveHold_shifts s
  | failover _ => exact failover_shifts s

/-- What each move and each shift keeps, an effect keeps. -/
theorem Effect.keeps {P : State → Prop} (move : ∀ s t, Move s t → P s → P t)
    (shift : ∀ s t, Shift s t → P s → P t) {s t : State} (h : Effect s t) (hs : P s) : P t :=
  reflTransGen_keeps (fun s t h hs => h.elim (move s t · hs) (shift s t · hs)) h.shifts hs

end Sys2Proof.Machine
end

section
/-!
PROOF. What the requests do, as effects: each request of Machine/*Requests.lean once.
-/

namespace Sys2Proof.Machine

/-! ## The requests' checks -/

/-- A request does effects only. -/
def Effectful (f : Request) : Prop := ∀ c ps s, s.phase = .running → Effects s (f c ps s).1

theorem whenOpen_effects {c : ClientId} {s : State} {k : State × Reply}
    (h : s.isOpen c = true → Effects s k.1) : Effects s (whenOpen c s k).1 := by
  unfold whenOpen
  split
  next opened => exact h opened
  next => exact .refl

theorem withParams_effects {α : Type} {parsed : Option α} {s : State} {k : α → State × Reply}
    (h : ∀ a, parsed = some a → Effects s (k a).1) : Effects s (withParams parsed s k).1 := by
  unfold withParams
  split
  next a => exact h a rfl
  next => exact .refl

theorem checked_effects {α : Type} {c : ClientId} {parsed : Option α} {s : State} {k : α → State × Reply}
    (h : ∀ a, s.isOpen c = true → parsed = some a → Effects s (k a).1) :
    Effects s (whenOpen c s (withParams parsed s k)).1 :=
  whenOpen_effects fun opened => withParams_effects fun a parses => h a opened parses

theorem gated_effects {α : Type} {c : ClientId} {parsed : Option α} {s : State} {k : α → State × Reply}
    (h : ∀ a, s.isOpen c = true → parsed = some a → s.authority = some c → Effects s (k a).1) :
    Effects s (gated c parsed s k).1 := by
  refine checked_effects fun a opened parses => ?_
  split
  next holder => exact h a opened parses holder
  next => exact .refl

/-! ## The calendar -/

/-- The lowest empty slot is empty. -/
theorem freeSlot_empty {s : State} {k : SlotId} (free : s.freeSlot = some k) : s.slot k = none := by
  have empty := List.find?_some free
  simpa using empty

/-- A booking whose checks have passed is a move, or nothing where no slot is empty (R63, log 20). -/
theorem bookEntry_effects {c : ClientId} {b : Booking} {s : State} (running : s.phase = .running)
    (inRange : BookingInRange b) (passed : bookingStatus c b s = none) :
    Effects s (bookEntry c b s).1 := by
  unfold bookEntry
  split
  next k free => exact (Move.book c b k running (freeSlot_empty free) inRange passed).effects
  next => exact .refl

theorem bookEntry_phase (c : ClientId) (b : Booking) (s : State) :
    (bookEntry c b s).1.phase = s.phase := by
  unfold bookEntry
  split <;> rfl

theorem requestSchedule_effects : Effectful requestSchedule := by
  refine fun c ps s running => checked_effects fun b opened parses => ?_
  split
  next => exact .refl
  next passed => exact bookEntry_effects running (parseBooking_some parses).1 passed

/-- The members of a BATCH that pass in turn are bookings, one after the other (R61). -/
theorem bookMembers_effects (c : ClientId) (ms : List (List Byte)) :
    ∀ (index : Nat) (s t : State) (handles : List Handle), s.phase = .running →
      bookMembers c index ms s = .ok (t, handles) → Effects s t := by
  induction ms with
  | nil =>
    intro index s t handles _ booked
    obtain ⟨rfl, -⟩ := Prod.mk.inj (Except.ok.inj booked)
    exact .refl
  | cons m ms ih =>
    intro index s t handles running booked
    unfold bookMembers at booked
    split at booked
    next => cases booked
    next b parses =>
      split at booked
      next => cases booked
      next passed =>
        dsimp only at booked
        split at booked
        next u hs rest =>
          obtain ⟨rfl, -⟩ := Prod.mk.inj (Except.ok.inj booked)
          exact (bookEntry_effects running (parseBooking_some parses).1 passed).trans
            (ih _ _ _ _ ((bookEntry_phase ..).trans running) rest)
        next => cases booked

theorem requestBatch_effects : Effectful requestBatch := by
  intro c ps s running
  unfold requestBatch
  split
  · exact .refl
  · split
    · exact .refl
    · split
      · exact .refl
      next booked => exact bookMembers_effects c _ _ s _ _ running booked

theorem requestCancel_effects : Effectful requestCancel := by
  refine fun c ps s _ => checked_effects fun h _ _ => ?_
  split
  · exact (Move.emptySlot s _).effects
  · exact .refl

/-- The removal of the entries that a test picks is a move (R68). -/
theorem Move.removeEntries (pick : Entry → Bool) (s : State) : Move s (removeEntries pick s) := by
  refine .remove _ fun k => ?_
  rw [getElem_tabulate]
  change (s.slot k).filter _ = none ∨ (s.slot k).filter _ = s.slot k
  cases s.slot k with
  | none => exact .inl rfl
  | some e =>
    cases picked : pick e
    · exact .inr (by simp [picked])
    · exact .inl (by simp [picked])

theorem requestCancelLine_effects : Effectful requestCancelLine := by
  refine fun c ps s _ => checked_effects fun l _ _ => ?_
  split
  · exact (Move.removeEntries _ s).effects
  · exact .refl

theorem requestQueryEntry_effects : Effectful requestQueryEntry := by
  refine fun c ps s _ => checked_effects fun h _ _ => ?_
  split
  · exact .refl
  · exact .refl

theorem requestListEntries_effects : Effectful requestListEntries := by
  refine fun c ps s _ => checked_effects fun h _ _ => ?_
  split
  · exact .refl
  · exact .refl

/-! ## Subscriptions and queues -/

theorem requestSubscribe_effects : Effectful requestSubscribe :=
  fun c _ _ _ => checked_effects fun _ opened _ => (Move.record c _ (.subscribe _ opened)).effects

theorem requestUnsubscribe_effects : Effectful requestUnsubscribe := by
  refine fun c ps s _ => checked_effects fun i opened _ => ?_
  dsimp only
  split
  · exact (Move.record c _ (.subscribe _ opened)).effects
  · exact .refl

theorem requestTakeCaptures_effects : Effectful requestTakeCaptures :=
  fun c _ _ _ => checked_effects fun _ _ _ => (Move.record c _ (.takeCaptures 4)).effects

theorem requestTakeNotices_effects : Effectful requestTakeNotices :=
  fun c _ _ _ => checked_effects fun _ _ _ => (Move.record c _ (.takeNotices 3)).effects

/-! ## Lines -/

theorem requestAcquire_effects : Effectful requestAcquire := by
  refine fun c ps s running => checked_effects fun (l, park, wait) opened _ => ?_
  dsimp only
  split
  next free => exact (Move.acquire l c park running free opened).effects
  next lease leased =>
    split
    · exact .refl
    next outside =>
      simp only [Bool.or_eq_true, decide_eq_true_eq, not_or, Bool.not_eq_true] at outside
      split
      · exact .refl
      · split
        · exact .refl
        next room =>
          exact (Move.enqueue l c park lease leased outside.1 outside.2 (by omega) opened).effects

/-- A line with a waiter is passed on to the head of its wait list, who is posted GRANTED (R39 to R41). -/
theorem passOn_waiter {l : LineId} {s : State} {w : Waiter} {ws : List Waiter}
    (list : (s.line l).waiters = w :: ws) :
    passOn l s = postNotice w.client .granted (BitVec.ofNat 16 l.val) .granted 0
      (s.setLine l ((s.line l).handedOn s.supplyState (s.idleLevel l))) := by
  simp only [passOn, Line.handedOn, list]

/-- A line with an empty wait list becomes FREE (R41). -/
theorem passOn_free {l : LineId} {s : State} (list : (s.line l).waiters = []) :
    passOn l s = s.setLine l ((s.line l).handedOn s.supplyState (s.idleLevel l)) := by
  simp only [passOn, Line.handedOn, list]

/-- A line that is passed on goes to its head waiter or becomes FREE; besides it only notices change (R39 to
R41). -/
theorem passOn_onlyNotices (l : LineId) (s : State) :
    OnlyNotices (s.setLine l ((s.line l).handedOn s.supplyState (s.idleLevel l))) (passOn l s) := by
  cases list : (s.line l).waiters with
  | nil => rw [passOn_free list]; exact .refl _
  | cons w ws => rw [passOn_waiter list]; exact postNotice_onlyNotices ..

theorem passOn_effects {l : LineId} {c : ClientId} {s : State} (held : (s.line l).heldBy c = true)
    (bare : ∀ k e, s.slot k = some e → e.owner = c → e.body.line ≠ l) : Effects s (passOn l s) := by
  have handed := (Move.handOn l c held bare).effects
  cases list : (s.line l).waiters with
  | nil => rw [passOn_free list]; exact handed
  | cons w ws => rw [passOn_waiter list]; exact handed.trans (postNotice_effects ..)

/-- After a withdrawal on a line the client has no entry there (R65). -/
theorem withdrawOnLine_bare (c : ClientId) (l : LineId) (s : State) (k : SlotId) (e : Entry)
    (stands : (withdrawOnLine c l s).slot k = some e) (own : e.owner = c) : e.body.line ≠ l := by
  simp only [withdrawOnLine, slot_removeEntries, Option.filter_eq_some_iff] at stands
  rintro rfl
  simp [own] at stands

theorem requestRelease_effects : Effectful requestRelease := by
  refine fun c ps s _ => checked_effects fun l _ _ => ?_
  split
  next held =>
    exact (Move.removeEntries _ s).effects.trans
      (passOn_effects (c := c) held fun k e => withdrawOnLine_bare c l s k e)
  next => exact .refl

/-- Waiters that leave a wait list leave the rest of the line as it is. -/
theorem LineMove.filterWaiters (s : State) (l : LineId) (r : Line) (keep : Waiter → Bool) :
    LineMove s l r { r with waiters := r.waiters.filter keep } :=
  ⟨rfl, List.filter_sublist, fun _ pulse _ => ⟨rfl, pulse⟩, fun _ _ _ pulse => ⟨.inl rfl, pulse⟩⟩

theorem requestLeaveQueue_effects : Effectful requestLeaveQueue := by
  refine fun c ps s _ => checked_effects fun l _ _ => ?_
  dsimp only
  split
  · exact (Move.setLine (.filterWaiters s l _ _)).effects
  · exact .refl

theorem requestDrive_effects : Effectful requestDrive := by
  refine fun c ps s _ => checked_effects fun (l, level) _ _ => ?_
  dsimp only
  split
  · exact .refl
  next holds =>
    split
    · exact .refl
    next normal =>
      have change : LineMove s l (s.line l) { (s.line l).cut with level := level } := by
        refine ⟨rfl, .refl _, fun free _ _ => ?_, fun hold => absurd hold normal⟩
        simp [Line.heldBy, Line.holder, free] at holds
      exact (Move.setLine change).effects

theorem requestLineStatus_effects : Effectful requestLineStatus :=
  fun _ _ _ _ => checked_effects fun _ _ _ => .refl

/-! ## Options -/

theorem requestReadOptions_effects : Effectful requestReadOptions :=
  fun _ _ _ _ => checked_effects fun _ _ _ => .refl

theorem requestStoreOptions_effects : Effectful requestStoreOptions := by
  refine fun c ps s running => gated_effects fun image _ _ _ => ?_
  split
  · exact .refl
  · dsimp only
    cases target : (storeTarget s).1 with
    | a =>
      exact (Move.store _ { s.recordA with good := false } s.recordB running (fun _ => rfl) (by simp)).effects
    | b =>
      exact (Move.store _ s.recordA { s.recordB with good := false } running (by simp) (fun _ => rfl)).effects

/-! ## The teardown -/

/-- A line of a departing client, outside any wait list of its own (R50). -/
def Line.departed (c : ClientId) (supply : SupplyState) (idle : Level) (r : Line) : Line :=
  match r.lease with
  | some lease => if lease.client = c then { r.cut with level := lease.park }.handedOn supply idle else r
  | none => r

/-- Where only notices differ, the lines are the same. -/
theorem OnlyNotices.line {s t : State} (h : OnlyNotices s t) (l : LineId) : t.line l = s.line l := by
  obtain ⟨vs, rfl, -⟩ := h
  rfl

theorem line_passOn (l m : LineId) (s : State) :
    (passOn l s).line m
      = if l = m then (s.line l).handedOn s.supplyState (s.idleLevel l) else s.line m := by
  rw [← line_setLine]
  exact (passOn_onlyNotices l s).line m

theorem line_departLine (c : ClientId) (l m : LineId) (s : State) :
    (departLine c l s).line m
      = if l = m then (s.line l).departed c s.supplyState (s.idleLevel l) else s.line m := by
  unfold departLine Line.departed
  cases (s.line l).lease with
  | none => simp +contextual
  | some lease =>
    by_cases own : lease.client = c
    · simp only [own, if_true, line_passOn, line_setLine]
      split
      · rfl
      · rfl
    · simp +contextual [own]

/-- The departures touch neither the supply state nor the idle levels. -/
theorem departLine_supply_idle (c : ClientId) (l m : LineId) (s : State) :
    (departLine c l s).supplyState = s.supplyState ∧ (departLine c l s).idleLevel m = s.idleLevel m :=
  ⟨(departLine_moved c l s).supplyState, (departLine_moved c l s).same (·.idleLevel m) fun _ _ _ _ _ => rfl⟩

/-- Each line departs for itself (R50). -/
theorem line_foldl_departLine (c : ClientId) (ls : List LineId) (distinct : ls.Nodup) (s : State) (m : LineId) :
    (ls.foldl (fun s l => departLine c l s) s).line m
      = if m ∈ ls then (s.line m).departed c s.supplyState (s.idleLevel m) else s.line m := by
  induction ls generalizing s with
  | nil => rfl
  | cons l ls ih =>
    obtain ⟨outside, distinct⟩ := List.nodup_cons.mp distinct
    obtain ⟨supply, idle⟩ := departLine_supply_idle c l m s
    rw [List.foldl_cons, ih distinct, supply, idle, line_departLine]
    by_cases same : l = m
    · subst same
      simp [outside]
    · have other : m ≠ l := fun h => same h.symm
      simp [same, other]

theorem line_departLines (c : ClientId) (s : State) (m : LineId) :
    (departLines c s).line m = (s.line m).departed c s.supplyState (s.idleLevel m) := by
  rw [departLines, line_foldl_departLine c _ (by decide), if_pos]
  exact List.mem_finRange m

theorem departLines_moved (c : ClientId) (s : State) : CalendarMoved s (departLines c s) :=
  foldl_keeps (CalendarMoved s) _ _ _ (fun u l _ h => h.trans (departLine_moved c l u)) (.refl s)

/-- A departed line is neither held nor awaited by a client that stood in no wait list (R50). -/
theorem departed_free {c : ClientId} {r : Line} (outside : r.awaitedBy c = false) (supply : SupplyState)
    (idle : Level) :
    (r.departed c supply idle).heldBy c = false ∧ (r.departed c supply idle).awaitedBy c = false := by
  unfold Line.departed
  cases leased : r.lease with
  | none => exact ⟨by simp [Line.heldBy, Line.holder, leased], outside⟩
  | some lease =>
    by_cases own : lease.client = c
    · simp only [own, if_true, Line.handedOn, Line.cut]
      rw [Line.awaitedBy] at outside
      cases list : r.waiters with
      | nil => exact ⟨rfl, rfl⟩
      | cons w ws =>
        rw [list] at outside
        simp only [List.any_cons, Bool.or_eq_false_iff, beq_eq_false_iff_ne] at outside
        exact ⟨by simpa [Line.heldBy, Line.holder] using outside.1, outside.2⟩
    · simp only [own, if_false]
      exact ⟨by simpa [Line.heldBy, Line.holder, leased] using own, outside⟩

theorem departLine_effects (c : ClientId) (l : LineId) (s : State) : Effects s (departLine c l s) := by
  unfold departLine
  split
  next lease leased =>
    split
    next own =>
      have removed := (Move.removeEntries (fun e => e.owner == c && e.body.line == l) s).effects
      have parked : LineMove (withdrawOnLine c l s) l (s.line l)
          { (s.line l).cut with level := lease.park } := by
        refine ⟨rfl, .refl _, fun free => ?_, fun _ other leased' _ => ⟨.inr ?_, rfl⟩⟩
        · rw [leased] at free
          cases free
        · rw [leased] at leased'
          cases leased'
          rfl
      refine (removed.trans (Move.setLine parked).effects).trans (passOn_effects (c := c) ?_ ?_)
      · simp [Line.heldBy, Line.holder, Line.cut, leased, own]
      · exact fun k e => withdrawOnLine_bare c l s k e
    next => exact .refl
  next => exact .refl

theorem departLines_effects (c : ClientId) (s : State) : Effects s (departLines c s) :=
  foldl_reaches _ _ _ fun u l _ => departLine_effects c l u

/-- Steps 1 to 4 of a teardown (R121). -/
def teardownStart (c : ClientId) (s : State) : State :=
  withdrawAll c (leaveAllQueues c (clearSubscriptions c (freeAuthority c s)))

theorem teardown_eq (c : ClientId) (after : Session) (s : State) :
    teardown c after s = clearClient c after (departLines c (teardownStart c s)) := rfl

@[simp] theorem client_removeEntries (pick : Entry → Bool) (s : State) (c : ClientId) :
    (removeEntries pick s).client c = s.client c := rfl

@[simp] theorem client_leaveAllQueues (c d : ClientId) (s : State) :
    (leaveAllQueues c s).client d = s.client d := rfl

theorem isOpen_freeAuthority (c d : ClientId) (s : State) : (freeAuthority c s).isOpen d = s.isOpen d := by
  unfold freeAuthority
  split <;> rfl

theorem authority_freeAuthority (c : ClientId) (s : State) : (freeAuthority c s).authority ≠ some c := by
  unfold freeAuthority
  split
  next => simp
  next other => exact other

theorem teardownStart_effects {c : ClientId} {s : State} (opened : s.isOpen c = true) :
    Effects s (teardownStart c s) := by
  have freed : Effects s (freeAuthority c s) := by
    unfold freeAuthority
    split
    · exact (Move.token none none (by simp) (by simp)).effects
    · exact .refl
  have cleared : Effects (freeAuthority c s) (clearSubscriptions c (freeAuthority c s)) :=
    (Move.record c _ (.subscribe _ ((isOpen_freeAuthority c c s).trans opened))).effects
  refine ((freed.trans cleared).trans ?_).trans (Move.removeEntries _ _).effects
  refine (Move.lines _ fun l => ?_).effects
  rw [getElem_tabulate]
  exact .filterWaiters _ l _ _

/-- After steps 1 to 5 a client is ready to be cleared (R121). -/
theorem readyToClear {c : ClientId} {s : State} (opened : s.isOpen c = true) :
    ReadyToClear c (departLines c (teardownStart c s)) := by
  have moved := departLines_moved c (teardownStart c s)
  obtain ⟨ns, lost, client⟩ := moved.client c
  have record : (teardownStart c s).client c
      = { (freeAuthority c s).client c with subs := Vector.replicate 4 none } := by
    rw [teardownStart, withdrawAll, client_removeEntries, client_leaveAllQueues, clearSubscriptions,
      client_modifyClient, if_pos rfl]
  constructor
  · rw [State.isOpen, client, record]
    exact (isOpen_freeAuthority c c s).trans opened
  · rw [moved.same State.authority fun _ _ _ _ _ => rfl]
    exact authority_freeAuthority c s
  · intro l
    rw [line_departLines]
    refine departed_free ?_ _ _
    rw [Line.awaitedBy_eq_false_iff]
    intro w mem
    have kept : w ∈ ((leaveAllQueues c (clearSubscriptions c (freeAuthority c s))).line l).waiters := mem
    rw [line_leaveAllQueues] at kept
    simpa using (List.mem_filter.mp kept).2
  · rw [client, record]

theorem teardown_effects {c : ClientId} {after : Session} {s : State} (opened : s.isOpen c = true)
    (ended : after = .closed ∨ after = .lapsed) : Effects s (teardown c after s) :=
  ((teardownStart_effects opened).trans (departLines_effects c _)).trans
    (Move.clear c after ended (readyToClear opened)).effects

/-! ## Sessions -/

theorem requestOpen_effects : Effectful requestOpen := by
  intro c ps s running
  unfold requestOpen
  split
  · exact .refl
  · refine withParams_effects fun (period, mask) parses => ?_
    have range : 10 ≤ period ∧ period ≤ 60000 := by
      unfold parseOpen at parses
      split at parses
      · dsimp only at parses
        split at parses
        next bounds =>
          simp only [Option.map_eq_some_iff, Prod.mk.injEq] at parses
          simp only [Bool.and_eq_true, decide_eq_true_eq] at bounds
          obtain ⟨_, _, rfl, _⟩ := parses
          exact bounds
        next => cases parses
      · cases parses
    exact (Move.openSession c period mask running range.1 range.2).effects

theorem requestClose_effects : Effectful requestClose :=
  fun _ _ _ _ => checked_effects fun _ opened _ => teardown_effects opened (.inl rfl)

theorem requestHeartbeat_effects : Effectful requestHeartbeat :=
  fun _ _ _ _ => checked_effects fun _ _ _ => .refl

theorem requestSetAttention_effects : Effectful requestSetAttention := by
  refine fun c ps s _ => checked_effects fun mask _ _ => ?_
  split
  next d opened => exact (Move.record c _ (.renew d { d with mask := mask } opened rfl (.inl rfl))).effects
  next => exact .refl
  next => exact .refl

theorem requestInfo_effects : Effectful requestInfo :=
  fun _ _ _ _ => withParams_effects fun _ _ => .refl

theorem requestUnknown_effects : Effectful requestUnknown := fun _ _ _ _ => .refl

/-! ## The time authority and the clock -/

theorem requestReadTime_effects : Effectful requestReadTime :=
  fun _ _ _ _ => checked_effects fun _ _ _ => .refl

theorem requestClaimAuthority_effects : Effectful requestClaimAuthority := by
  refine fun c ps s _ => checked_effects fun _ opened _ => ?_
  split
  next => exact (Move.token (some c) s.armed (fun d own => .inr (by cases own; exact opened)) (fun _ => rfl)).effects
  next => exact .refl

theorem requestYieldAuthority_effects : Effectful requestYieldAuthority := by
  refine fun c ps s _ => checked_effects fun _ _ _ => ?_
  split
  next =>
    have freed : Effects s { s with authority := none, armed := none } :=
      (Move.token none none (by simp) (by simp)).effects
    dsimp only
    split
    · exact freed.trans (postNotice_effects ..)
    · exact freed
  next => exact .refl

theorem stepRequest_effects (new : Count) (s : State) : Effects s (stepRequest new s).1 := by
  unfold stepRequest
  dsimp only
  split
  next allowed => exact .single (.timeStep new allowed)
  next => exact .refl

theorem requestSetTime_effects : Effectful requestSetTime :=
  fun _ _ _ _ => gated_effects fun _ _ _ _ => stepRequest_effects ..

theorem requestShift_effects : Effectful requestShift :=
  fun _ _ _ _ => gated_effects fun _ _ _ _ => stepRequest_effects ..

theorem requestArmSync_effects : Effectful requestArmSync :=
  fun _ _ s _ => gated_effects fun load _ _ holder =>
    (Move.token s.authority (some load) (fun _ => .inl) (fun _ => by simp [holder])).effects

theorem requestDisarmSync_effects : Effectful requestDisarmSync := by
  refine fun c ps s _ => gated_effects fun _ _ _ _ => ?_
  split
  · exact (Move.token s.authority none (fun _ => .inl) (by simp)).effects
  · exact .refl

theorem requestRestoreClock_effects : Effectful requestRestoreClock := by
  refine fun c ps s _ => gated_effects fun _ _ _ _ => ?_
  split
  next backup =>
    have restarting := Move.clock (s := s) .restarting (.inl (by simp [State.quality, backup]))
    refine restarting.effects.trans (Move.effects ?_)
    apply Move.unread
  all_goals exact .refl

/-- One line of the table of kinds. -/
theorem effectful_of_ite {p : Prop} [Decidable p] {f g : Request} {others : Option Request}
    (named : (if p then some g else others) = some f) (first : Effectful g)
    (rest : others = some f → Effectful f) : Effectful f := by
  split at named
  · exact Option.some.inj named ▸ first
  · exact rest named

/-- Every request does effects only. -/
theorem effectful_of_kind {kind : Byte} {f : Request} (named : requestOfKind kind = some f) : Effectful f := by
  unfold requestOfKind at named
  refine effectful_of_ite named requestOpen_effects fun named => ?_
  refine effectful_of_ite named requestClose_effects fun named => ?_
  refine effectful_of_ite named requestHeartbeat_effects fun named => ?_
  refine effectful_of_ite named requestSetAttention_effects fun named => ?_
  refine effectful_of_ite named requestInfo_effects fun named => ?_
  refine effectful_of_ite named requestAcquire_effects fun named => ?_
  refine effectful_of_ite named requestRelease_effects fun named => ?_
  refine effectful_of_ite named requestLeaveQueue_effects fun named => ?_
  refine effectful_of_ite named requestDrive_effects fun named => ?_
  refine effectful_of_ite named requestLineStatus_effects fun named => ?_
  refine effectful_of_ite named requestSchedule_effects fun named => ?_
  refine effectful_of_ite named requestBatch_effects fun named => ?_
  refine effectful_of_ite named requestCancel_effects fun named => ?_
  refine effectful_of_ite named requestCancelLine_effects fun named => ?_
  refine effectful_of_ite named requestQueryEntry_effects fun named => ?_
  refine effectful_of_ite named requestListEntries_effects fun named => ?_
  refine effectful_of_ite named requestSubscribe_effects fun named => ?_
  refine effectful_of_ite named requestUnsubscribe_effects fun named => ?_
  refine effectful_of_ite named requestTakeCaptures_effects fun named => ?_
  refine effectful_of_ite named requestTakeNotices_effects fun named => ?_
  refine effectful_of_ite named requestReadTime_effects fun named => ?_
  refine effectful_of_ite named requestClaimAuthority_effects fun named => ?_
  refine effectful_of_ite named requestYieldAuthority_effects fun named => ?_
  refine effectful_of_ite named requestSetTime_effects fun named => ?_
  refine effectful_of_ite named requestShift_effects fun named => ?_
  refine effectful_of_ite named requestArmSync_effects fun named => ?_
  refine effectful_of_ite named requestDisarmSync_effects fun named => ?_
  refine effectful_of_ite named requestRestoreClock_effects fun named => ?_
  refine effectful_of_ite named requestReadOptions_effects fun named => ?_
  refine effectful_of_ite named requestStoreOptions_effects fun named => ?_
  cases named

end Sys2Proof.Machine
end

section
/-!
PROOF. What the engine, the due events, the ports, the resets and the cycles do, as events; and what a step does.
-/

namespace Sys2Proof.Machine

/-! ## What no event touches -/

/-- An effect leaves the run count, the phase, the options and the engine as they are. -/
theorem Effect.frame {s t : State} (h : Effect s t) :
    t.run = s.run ∧ t.phase = s.phase ∧ t.options = s.options ∧ t.engine = s.engine :=
  Effect.keeps (P := fun u => u.run = s.run ∧ u.phase = s.phase ∧ u.options = s.options ∧ u.engine = s.engine)
    (fun u v move hu => by cases move <;> exact hu) (fun u v shift hu => by cases shift <;> exact hu) h
    ⟨rfl, rfl, rfl, rfl⟩

theorem Effects.frame {s t : State} (h : Effects s t) :
    t.run = s.run ∧ t.phase = s.phase ∧ t.options = s.options ∧ t.engine = s.engine :=
  reflTransGen_keeps (P := fun u => u.run = s.run ∧ u.phase = s.phase ∧ u.options = s.options ∧ u.engine = s.engine)
    (fun u v effect ⟨run, phase, options, engine⟩ => by
      obtain ⟨run', phase', options', engine'⟩ := effect.frame
      exact ⟨run'.trans run, phase'.trans phase, options'.trans options, engine'.trans engine⟩)
    h ⟨rfl, rfl, rfl, rfl⟩

/-- An event leaves the run count, the phase and the options as they are. -/
theorem Event.frame {s t : State} (h : Event s t) :
    t.run = s.run ∧ t.phase = s.phase ∧ t.options = s.options := by
  cases h with
  | effect h =>
    obtain ⟨run, phase, options, -⟩ := h.frame
    exact ⟨run, phase, options⟩
  | engine h => cases h <;> exact ⟨rfl, rfl, rfl⟩

theorem Events.frame {s t : State} (h : Events s t) :
    t.run = s.run ∧ t.phase = s.phase ∧ t.options = s.options :=
  reflTransGen_keeps (P := fun u => u.run = s.run ∧ u.phase = s.phase ∧ u.options = s.options)
    (fun u v event ⟨run, phase, options⟩ => by
      obtain ⟨run', phase', options'⟩ := event.frame
      exact ⟨run'.trans run, phase'.trans phase, options'.trans options⟩)
    h ⟨rfl, rfl, rfl⟩

/-! ## The engine -/

/-- The request held, if it is of the kind wanted, is the engine's, and the device runs (R134). -/
theorem holdsRequest_some {want : Byte → Bool} {s : State} {j : EngineJob}
    (held : holdsRequest want s = some j) : s.engine = some j ∧ s.phase = .running := by
  unfold holdsRequest at held
  split at held
  next j' engine =>
    split at held
    next ready =>
      obtain rfl := Option.some.inj held
      simp only [Bool.and_eq_true, beq_iff_eq] at ready
      exact ⟨engine, ready.2⟩
    next => cases held
  next => cases held

/-- The execution of a request is its effects and the answer (R134). -/
theorem runRequest_events {want : Byte → Bool} {f : Request} (effects : Effectful f) (s : State) :
    Events s (runRequest want f s) := by
  unfold runRequest
  split
  next j held =>
    obtain ⟨engine, running⟩ := holdsRequest_some held
    have done := effects j.client j.frame.params s running
    obtain ⟨-, -, -, same⟩ := done.frame
    exact done.events.trans (EngineMove.answer j _ (same.trans engine)).events
  next => exact .refl

theorem executeHeld_events (s : State) : Events s (executeHeld s) := by
  unfold executeHeld
  split
  next j _ =>
    refine runRequest_events ?_ s
    cases named : requestOfKind j.frame.kind with
    | none => exact requestUnknown_effects
    | some f => exact effectful_of_kind named
  next => exact .refl

theorem completeRequest_events (s : State) : Events s (completeRequest s) := by
  unfold completeRequest
  split
  next j held =>
    split
    next => exact (EngineMove.complete j _ held).events
    next => exact .refl
  next => exact .refl

theorem finishRequest_events (s : State) : Events s (finishRequest s) := by
  unfold finishRequest
  split
  · split
    · exact (executeHeld_events s).trans (completeRequest_events _)
    · exact completeRequest_events s
  · exact .refl

/-- A take renews the keepalive of an OPEN client (R115). -/
theorem renewKeepalive_move (c : ClientId) (s : State) : Move s (renewKeepalive c s) := by
  refine .record c _ ?_
  dsimp only
  split
  next d opened =>
    exact .renew d { d with deadline := deadlineFrom s.run d.period } opened rfl (.inr rfl)
  next => exact .marks (s.client c).marks
  next => exact .marks (s.client c).marks

/-- The end of a take: a duplicate leaves the engine free to choose again, any other frame is held (R134,
R145). -/
theorem endTake_events (c : ClientId) (f : Frame) {s : State} (running : s.phase = .running)
    (free : s.engine = none) (unchosen : s.choice = none) :
    Events s
      (if isDuplicate (s.client c).response f then freeEngine s
        else
          { s.modifyClient c fun r => { r with response := .pending f.sequence f.kind } with
            engine := some { client := c, frame := f, takenAt := s.run, outcome := none } }) := by
  split
  · exact (EngineMove.choose free).events
  · exact (EngineMove.hold c f running free unchosen).events

/-- A frame that the free engine takes (R134, R135, R145). -/
theorem takeFrame_events {c : ClientId} {s : State} (f : Frame) (running : s.phase = .running)
    (free : s.engine = none) : Events s (takeFrame c f s) := by
  have pointed : Move s { s with pointer := c } := by apply Move.unread
  have renewed := (pointed.events.trans (EngineMove.dequeue c).events).trans (renewKeepalive_move c _).events
  exact renewed.trans (endTake_events c f running free rfl)

theorem takeRequest_events (s : State) : Events s (takeRequest s) := by
  unfold takeRequest
  split
  next => exact .refl
  next ready =>
    simp only [Bool.or_eq_true, Option.isSome_iff_ne_none, bne_iff_ne, not_or, not_not] at ready
    split
    · split
      next f _ => exact takeFrame_events f ready.2 ready.1
      next => exact .refl
    · exact .refl

/-! ## The due events -/

theorem tryAcceptEdge_effects (i : InputId) (s : State) : Effects s (tryAcceptEdge i s) := by
  unfold tryAcceptEdge
  split
  next latch _ => exact (Move.edge i latch).effects
  next => exact .refl

/-- A posting leaves what the checks of a step read as it is (R23). -/
theorem OnlyNotices.stepAllowed {s t : State} (h : OnlyNotices s t) (new : Count) :
    stepAllowed new t = stepAllowed new s := by
  obtain ⟨vs, rfl, -⟩ := h
  rfl

/-- The armed load is removed, and its holder is told how the sync load ended (R30). -/
def loadAnswered (detail : SyncDetail) (s : State) : State :=
  match s.authority with
  | some c => postNotice c .sync 0 (.sync detail) 0 { s with armed := none }
  | none => { s with armed := none }

/-- A sync load that passes its checks is answered and performed (R30). -/
theorem syncLoad_allowed {load : ArmedLoad} {edge : EdgeKind} {passed : Count} {s : State}
    (armed : s.armed = some load) (kind : load.edge = edge)
    (allowed : stepAllowed (load.value + passed) s = true) :
    syncLoad edge passed s = timeStep (load.value + passed) (loadAnswered .loaded s) := by
  unfold syncLoad
  rw [armed]
  dsimp only
  rw [if_pos kind, if_pos allowed, allowed]
  rfl

/-- A sync load that fails its checks is refused (R30). -/
theorem syncLoad_refused {load : ArmedLoad} {edge : EdgeKind} {passed : Count} {s : State}
    (armed : s.armed = some load) (kind : load.edge = edge)
    (refused : stepAllowed (load.value + passed) s = false) :
    syncLoad edge passed s = loadAnswered .refusedRange s := by
  unfold syncLoad
  rw [armed]
  dsimp only
  rw [if_pos kind, refused, if_neg (by simp)]
  rfl

/-- A SYNC edge of another kind, or with no load armed, performs none (R30). -/
theorem syncLoad_other {edge : EdgeKind} {passed : Count} {s : State}
    (other : ∀ load, s.armed = some load → load.edge ≠ edge) : syncLoad edge passed s = s := by
  unfold syncLoad
  split
  next => rfl
  next load armed => rw [if_neg (other load armed)]

/-- The answer to a load removes it and changes no more than notices. -/
theorem loadAnswered_onlyNotices (detail : SyncDetail) (s : State) :
    OnlyNotices { s with armed := none } (loadAnswered detail s) := by
  unfold loadAnswered
  split
  · exact postNotice_onlyNotices ..
  · exact .refl _

theorem loadAnswered_effects (detail : SyncDetail) (s : State) : Effects s (loadAnswered detail s) := by
  have unarmed : Effects s { s with armed := none } :=
    (Move.token s.authority none (fun _ => .inl) (by simp)).effects
  unfold loadAnswered
  split
  · exact unarmed.trans (postNotice_effects ..)
  · exact unarmed

theorem syncLoad_effects (edge : EdgeKind) (passed : Count) (s : State) :
    Effects s (syncLoad edge passed s) := by
  by_cases load : ∃ load, s.armed = some load ∧ load.edge = edge
  · obtain ⟨load, armed, kind⟩ := load
    cases allowed : stepAllowed (load.value + passed) s with
    | true =>
      rw [syncLoad_allowed armed kind allowed]
      refine (loadAnswered_effects .loaded s).tail (.timeStep _ ?_)
      exact ((loadAnswered_onlyNotices .loaded s).stepAllowed _).trans allowed
    | false =>
      rw [syncLoad_refused armed kind allowed]
      exact loadAnswered_effects .refusedRange s
  · rw [syncLoad_other fun l armed kind => load ⟨l, armed, kind⟩]

theorem trySyncEdge_effects (s : State) : Effects s (trySyncEdge s) := by
  unfold trySyncEdge
  split
  · refine (Move.effects ?_).trans (syncLoad_effects ..)
    apply Move.unread
  · exact .refl

theorem endPulse_effects (l : LineId) (s : State) : Effects s (endPulse l s) := by
  unfold endPulse
  split
  next p pulse =>
    split
    next =>
      have change : LineMove s l (s.line l) { s.line l with level := p.returnLevel, pulse := none } := by
        constructor
        · rfl
        · exact .refl _
        · intro _ absent
          rw [pulse] at absent
          cases absent
        · intro _ _ _ absent
          rw [pulse] at absent
          cases absent
      exact (Move.setLine change).effects
    next => exact .refl
  next => exact .refl

/-- A client with a session is OPEN (R113). -/
theorem isOpen_of_session {s : State} {c : ClientId} {d : SessionData}
    (opened : (s.client c).session = .opened d) : s.isOpen c = true := by
  simp [State.isOpen, Client.isOpen, opened, Session.data?]

theorem expireKeepalive_effects (c : ClientId) (s : State) : Effects s (expireKeepalive c s) := by
  unfold expireKeepalive
  split
  next d opened =>
    split
    · exact teardown_effects (isOpen_of_session opened) (.inr rfl)
    · exact .refl
  next => exact .refl
  next => exact .refl

theorem tryEnterHold_effects (s : State) : Effects s (tryEnterHold s) := by
  unfold tryEnterHold
  split
  next ready => exact (Move.enterHold ready.1 ready.2).effects.trans (postAll_effects ..)
  next => exact .refl

theorem tryLeaveHold_effects (s : State) : Effects s (tryLeaveHold s) := by
  unfold tryLeaveHold
  split
  next ready => exact .single (.leaveHold ready.1 ready.2)
  next => exact .refl

theorem finishStore_effects (job : StoreJob) (readBack : List Byte) (s : State) :
    Effects s (finishStore job readBack s) := by
  have copied : Move s (s.setCopy job.target readBack) := by
    cases job.target
    · apply Move.unread
    · apply Move.unread
  have finished : ∀ r : CopyRecord, Effects (s.setCopy job.target readBack)
      { (s.setCopy job.target readBack).setRecord job.target r with store := none } := by
    intro r
    cases job.target
    · exact (Move.endStore r _).effects
    · exact (Move.endStore _ r).effects
  unfold finishStore
  dsimp only
  refine Relation.ReflTransGen.trans ?_ (postNotice_effects ..)
  split
  · exact copied.effects.trans (finished _)
  · exact copied.effects.trans (Move.endStore _ _).effects

theorem completeStore_effects (readBack : List Byte) (s : State) : Effects s (completeStore readBack s) := by
  unfold completeStore
  split
  · split
    · exact finishStore_effects ..
    · exact .refl
  · exact .refl

theorem completeStoreFreely_effects (s : State) : Effects s (completeStoreFreely s) := by
  unfold completeStoreFreely
  split
  · exact (Move.useFree s 33).effects.trans (finishStore_effects ..)
  · exact .refl

theorem failover_effects (s : State) : Effects s (failover s) := by
  cases due : s.failoverDue with
  | false => rw [failover, due]; exact .refl
  | true => exact .single (.failover due)

/-- A restart ends in MAIN, or stays under DEGRADED quality (R12). -/
theorem endRestart_effects {k : ClockState} (detail : ClockDetail) {s : State}
    (quality : s.quality = .degraded ∨ k = .main) : Effects s (endRestart k detail s) := by
  refine ((Move.clock k quality).effects.trans (Move.effects ?_)).trans (postAll_effects ..)
  apply Move.unread

theorem restartSuccess_effects (s : State) : Effects s (restartSuccess s) := by
  unfold restartSuccess
  split
  · exact endRestart_effects _ (.inr rfl)
  · exact .refl

/-- A restart is under DEGRADED quality (R8). -/
theorem quality_of_restarting {s : State} (restarting : s.clock = some .restarting) :
    s.quality = .degraded := by
  simp [State.quality, restarting]

theorem restartMissingEdge_effects (s : State) : Effects s (restartMissingEdge s) := by
  unfold restartMissingEdge
  split
  next lost =>
    simp only [ended, State.restartLost, Bool.and_eq_true, beq_iff_eq] at lost
    exact endRestart_effects _ (.inl (quality_of_restarting lost.1.1.1))
  next => exact .refl

theorem startWindowExpiry_effects (s : State) : Effects s (startWindowExpiry s) := by
  unfold startWindowExpiry
  split
  next expired =>
    simp only [ended, State.windowOver, Bool.and_eq_true, beq_iff_eq] at expired
    exact endRestart_effects _ (.inl (quality_of_restarting expired.1.1))
  next => exact .refl

theorem completeRestore_events (s : State) : Events s (completeRestore s) := by
  unfold completeRestore
  split
  · exact completeRequest_events s
  · exact .refl

/-- Every event that the device takes by itself. -/
theorem DueEvent.run_events (e : DueEvent) (s : State) : Events s (e.run s) := by
  cases e with
  | acceptedEdge i => exact (tryAcceptEdge_effects i s).events
  | syncEdge => exact (trySyncEdge_effects s).events
  | occurrence k => exact Relation.ReflTransGen.single (.effect (.occurrence k))
  | pulseEnd l => exact (endPulse_effects l s).events
  | keepaliveExpiry c => exact (expireKeepalive_effects c s).events
  | holdEntry => exact (tryEnterHold_effects s).events
  | holdExit => exact (tryLeaveHold_effects s).events
  | storeCompletion => exact (completeStoreFreely_effects s).events
  | failover => exact (failover_effects s).events
  | restartSuccess => exact (completeRestore_events s).trans (restartSuccess_effects _).events
  | restartMissingEdge => exact (completeRestore_events s).trans (restartMissingEdge_effects _).events
  | startWindowExpiry => exact (completeRestore_events s).trans (startWindowExpiry_effects _).events
  | requestTake => exact takeRequest_events s
  | request => exact finishRequest_events s

theorem settle_events (s : State) : Events s (settle s) :=
  settle_keeps (Events s) s (fun t n h => h.trans (Move.useFree t n).events)
    (fun t e _ h => h.trans (e.run_events t)) (fun t h => h.trans (takeRequest_events t)) .refl

/-! ## The ports -/

theorem clearCarried_effects (c : ClientId) (status : Byte) (s : State) :
    Effects s (clearCarried c status s) := (Move.record c _ (.marks _)).effects

theorem markCollided_effects (c : ClientId) (s : State) : Effects s (markCollided c s) :=
  (Move.record c _ (.marks _)).effects

theorem markFrameErr_effects (c : ClientId) (s : State) : Effects s (markFrameErr c s) :=
  (Move.record c _ (.marks _)).effects

theorem markDiscarded_effects (c : ClientId) (s : State) : Effects s (markDiscarded c s) :=
  (Move.record c _ (.marks _)).effects

theorem placeFrame_effects (c : ClientId) (f : Frame) (s : State) : Effects s (placeFrame c f s) :=
  (Move.record c _ (.place f)).effects

/-- The port records change, which no invariant reads. -/
theorem ports_effects (s : State) (fourWire : FourWirePort) (twoWire : TwoWirePort) (ack selA selB : Bool) :
    Effects s { s with fourWire := fourWire, twoWire := twoWire, sdaAck := ack, selA := selA, selB := selB } :=
  Move.effects (by apply Move.unread)

theorem setSelect_effects (s : State) (sel : Select) (active : Bool) : Effects s (s.setSelect sel active) := by
  cases sel
  · exact ports_effects s s.fourWire s.twoWire s.sdaAck active s.selB
  · exact ports_effects s s.fourWire s.twoWire s.sdaAck s.selA active

/-- The four-wire port goes to a state. -/
theorem fourWire_effects (s : State) (port : FourWirePort) : Effects s { s with fourWire := port } :=
  ports_effects s port s.twoWire s.sdaAck s.selA s.selB

/-- The two-wire port goes to a state. -/
theorem twoWire_effects (s : State) (port : TwoWirePort) (ack : Bool) :
    Effects s { s with twoWire := port, sdaAck := ack } :=
  ports_effects s s.fourWire port ack s.selA s.selB

theorem fourWireBit_effects (b : Bool) (s : State) : Effects s (fourWireBit b s) := by
  unfold fourWireBit
  split
  · dsimp only
    split
    · exact (fourWire_effects s _).trans (clearCarried_effects ..)
    · exact fourWire_effects s _
  all_goals exact .refl

theorem fourWireBits_effects (bits : List Bool) (s : State) : Effects s (fourWireBits bits s) :=
  foldl_reaches _ _ _ fun u b _ => fourWireBit_effects b u

theorem completeFirstByte_effects (b : Byte) (s : State) : Effects s (completeFirstByte b s) := by
  unfold completeFirstByte
  split
  · exact fourWireBits_effects ..
  · exact .refl

theorem endTransaction_effects (t : FourWireTransaction) (s : State) : Effects s (endTransaction t s) := by
  unfold endTransaction
  split
  · exact .refl
  · split
    · exact .refl
    · split
      · exact markFrameErr_effects ..
      · split
        · exact markFrameErr_effects ..
        · split
          · exact placeFrame_effects ..
          · exact markDiscarded_effects ..

theorem openTransaction_effects (sel : Select) (s : State) : Effects s (openTransaction sel s) := by
  unfold openTransaction
  split
  · exact fourWire_effects s _
  all_goals exact .refl

theorem collide_effects (s : State) : Effects s (collide s) := by
  unfold collide
  split
  · exact (fourWire_effects s _).trans ((markCollided_effects 0 _).trans (markCollided_effects 1 _))
  · exact (markCollided_effects 0 _).trans (markCollided_effects 1 _)
  · exact fourWire_effects s _
  · exact .refl

theorem bothInactive_effects (s : State) : Effects s (bothInactive s) := by
  unfold bothInactive
  split
  · exact fourWire_effects s _
  · split
    · exact fourWire_effects s _
    · exact fourWire_effects s _
  all_goals exact .refl

theorem releaseSelect_effects (sel : Select) (bits : List Bool) (s : State) :
    Effects s (releaseSelect sel bits s) := by
  have waits : Effects s
      (if (s.setSelect sel false).isActive (otherSelect sel) then s.setSelect sel false
        else bothInactive (s.setSelect sel false)) := by
    split
    · exact setSelect_effects ..
    · exact (setSelect_effects ..).trans (bothInactive_effects _)
  unfold releaseSelect
  split
  · split
    · refine ((fourWireBits_effects bits s).trans ?_).trans (setSelect_effects ..)
      split
      · exact (fourWire_effects _ _).trans (endTransaction_effects ..)
      all_goals exact .refl
    · exact setSelect_effects ..
  · exact waits
  · exact setSelect_effects ..
  · exact waits

theorem busCondition_effects (condition : BusCondition) (s : State) : Effects s (busCondition condition s) := by
  unfold busCondition
  dsimp only
  split
  · exact twoWire_effects s _ _
  · split
    · exact twoWire_effects s _ _
    · exact (twoWire_effects s _ _).trans (markFrameErr_effects ..)
  all_goals exact twoWire_effects s _ _

theorem refuseByte_effects (s : State) : Effects s (refuseByte s) := twoWire_effects s _ _

theorem acceptByte_effects (c : ClientId) (bytes : List Byte) (placed : Bool) (s : State) :
    Effects s (acceptByte c bytes placed s) := twoWire_effects s _ _

theorem writeByte_effects (b : Byte) (s : State) : Effects s (writeByte b s) := by
  unfold writeByte
  split
  · split
    · exact refuseByte_effects s
    · split
      · split
        · exact acceptByte_effects ..
        · exact (markDiscarded_effects ..).trans (refuseByte_effects _)
      · exact acceptByte_effects ..
      · split
        · exact acceptByte_effects ..
        · exact (markFrameErr_effects ..).trans (refuseByte_effects _)
      · split
        · exact acceptByte_effects ..
        · split
          · exact (placeFrame_effects ..).trans (acceptByte_effects ..)
          · exact (markFrameErr_effects ..).trans (refuseByte_effects _)
  all_goals first | exact .refl | exact twoWire_effects s _ _

theorem addressByte_effects (b : Byte) {write read : ClientId → State → State} (s : State)
    (writes : ∀ c u, Effects u (write c u)) (reads : ∀ c u, Effects u (read c u)) :
    Effects s (addressByte b write read s) := by
  have started := busCondition_effects .start s
  unfold addressByte
  dsimp only
  split
  · split
    · refine started.trans ((twoWire_effects _ (busCondition .start s).twoWire true).trans ?_)
      split
      · exact reads ..
      · exact writes ..
    · exact started.trans (twoWire_effects _ _ _)
  all_goals exact started

theorem receiveBytes_effects (bytes : List Byte) (c : ClientId) (s : State) :
    Effects s (receiveBytes bytes c s) :=
  (twoWire_effects s _ _).trans (foldl_reaches _ _ _ fun u b _ => writeByte_effects b u)

theorem sendBits_effects (bits : Nat) (lastAcked : Bool) (c : ClientId) (s : State) :
    Effects s (sendBits bits lastAcked c s) := by
  unfold sendBits
  dsimp only
  split
  · exact (twoWire_effects s _ _).trans (clearCarried_effects ..)
  · exact twoWire_effects s _ _

/-! ## Resets and the start sequence -/

theorem Move.lives {s t : State} (h : Move s t) : Lives s t := .single (.inl (.effect (.move h)))

theorem Boot.lives {s t : State} (h : Boot s t) : Lives s t := .single (.inr h)

theorem Events.lives {s t : State} (h : Events s t) : Lives s t :=
  Relation.ReflTransGen.mono (fun _ _ => Or.inl) _ _ h

theorem deviceReset_lives (s : State) : Lives s (deviceReset s) :=
  Boot.reset.lives.trans (Move.lives (by apply Move.unread))

theorem powerUp_lives (level : Nat) (s : State) : Lives s (powerUp level s) := by
  unfold powerUp
  split
  · exact (deviceReset_lives s).trans (Move.lives (by apply Move.unread))
  · exact .refl

theorem collapse_lives (level : Nat) (s : State) : Lives s (collapse level s) := by
  unfold collapse
  split
  · exact (deviceReset_lives s).trans (Move.lives (by apply Move.unread))
  · exact .refl

theorem loseRecords_lives (level : Nat) (s : State) : Lives s (loseRecords level s) := by
  unfold loseRecords
  split
  · exact Move.lives (by apply Move.unread)
  · exact .refl

theorem moveSupply_lives (level : Nat) (s : State) : Lives s (moveSupply level s) :=
  (((powerUp_lives level s).trans (collapse_lives level _)).trans (loseRecords_lives level _)).trans
    (Move.lives (by apply Move.unread))

theorem pinReset_lives (s : State) : Lives s (pinReset s) :=
  (deviceReset_lives s).trans (Move.lives (by apply Move.unread))

theorem startSequence_lives {level : Nat} {s : State} (held : s.phase = .heldInReset) :
    Lives s (startSequence level s) :=
  (Boot.start held).lives.trans (Move.lives (by apply Move.unread))

/-- Clock start ends (R14, R161). -/
theorem clockStart_lives {s : State} (before : s.phase = .beforeClockStart) : Lives s (clockStart s) :=
  (Boot.clockStart (startedClock s.proving) before).lives.trans (Move.lives (by apply Move.unread))

/-- A cycle that the clock supervisor counts touches nothing that an invariant reads. -/
theorem superviseCycle_move (o : Oscillator) (s : State) : Move s (superviseCycle o s) := by
  obtain ⟨_, _, _, _, h⟩ := superviseCycle_counts o s
  rw [h]
  apply Move.unread

theorem startCycle_lives (s : State) (o : Oscillator) : Lives s (startCycle s o) := by
  unfold startCycle
  split
  · exact .refl
  · exact (superviseCycle_move o s).lives

theorem startCycle_phase (s : State) (o : Oscillator) : (startCycle s o).phase = s.phase := by
  unfold startCycle
  split
  · rfl
  · obtain ⟨_, _, _, _, h⟩ := superviseCycle_counts o s
    rw [h]

theorem runClockStart_lives {s : State} (cycles : List Oscillator) (before : s.phase = .beforeClockStart) :
    Lives s (runClockStart cycles s) := by
  have counts : Lives s (cycles.foldl startCycle s) ∧ (cycles.foldl startCycle s).phase = .beforeClockStart :=
    foldl_keeps (fun u => Lives s u ∧ u.phase = .beforeClockStart) _ _ _
      (fun u o _ ⟨reached, phase⟩ =>
        ⟨reached.trans (startCycle_lives u o), (startCycle_phase u o).trans phase⟩) ⟨.refl, before⟩
  unfold runClockStart
  dsimp only
  split
  · exact counts.1.trans (clockStart_lives counts.2)
  · exact .refl

/-! ## Cycles and ticks -/

/-- The monitor looks at the supply, once ticks have begun (R163, R164). -/
theorem superviseSupply_move {s : State} (sampled : s.sampled = true) : Move s (superviseSupply s) := by
  refine .filter _ sampled ?_
  split
  · exact .inr rfl
  · exact .inl rfl

/-- A tick after the count of a cycle is the counts, the sample and the monitor's look (R1 to R3). -/
theorem tickCore_events (o : Oscillator) (s : State) :
    Events (counted s) (tickCore (superviseCycle o s)) := by
  obtain ⟨missing, window, progress, proving, h⟩ := superviseCycle_counts o s
  rw [h]
  refine (Move.events ?_).trans (superviseSupply_move (s := sampleAll _ _ _) rfl).events
  apply Move.unread

theorem Passed.events {s t u : State} {n : Nat} (before : Passed s n t) (h : Events t u) : Passed s n u :=
  reflTransGen_keeps (fun _ _ event before => before.event event) h before

theorem tickCore_run (s : State) : (tickCore s).run = s.run + 1 := rfl

/-- The divider advances (R1). -/
theorem Move.divider (s : State) (d : Fin 8) : Move s { s with divider := d } := by
  apply Move.unread

/-- Events before a stretch of events and ticks are part of it. -/
theorem Passed.after {r s t : State} {n : Nat} (h : Passed s n t) (first : Events r s) : Passed r n t := by
  induction h with
  | start => exact Passed.start.events first
  | event _ event ih => exact ih.event event
  | tick running _ ih => exact ih.tick running

/-- One cycle is events without a tick, or a tick and events (R1). -/
theorem oscillatorCycle_events (o : Oscillator) (s : State) :
    Events s (oscillatorCycle o s) ∧ (oscillatorCycle o s).run = s.run
      ∨ Events (counted s) (oscillatorCycle o s) ∧ (oscillatorCycle o s).run = s.run + 1 := by
  have cycled := (superviseCycle_move o s).events
  have same : (superviseCycle o s).run = s.run := cycled.frame.1
  by_cases source : s.tickSource = some o
  · by_cases last : s.divider = 7
    · rw [oscillatorCycle_tick o s source last]
      exact .inr ⟨tickCore_events o s, (tickCore_run _).trans (congrArg (· + 1) same)⟩
    · rw [oscillatorCycle_count o s source last]
      exact .inl ⟨cycled.trans (Move.divider _ _).events, same⟩
  · rw [oscillatorCycle_other o s source]
    exact .inl ⟨cycled, same⟩

/-- One cycle after everything due has been taken: no tick or one. -/
theorem oscillatorCycle_passed {s t : State} {n : Nat} (o : Oscillator) (running : t.phase = .running)
    (before : Passed s n t) :
    Passed s n (oscillatorCycle o (settle t)) ∧ (oscillatorCycle o (settle t)).run = t.run
      ∨ Passed s (n + 1) (oscillatorCycle o (settle t)) ∧ (oscillatorCycle o (settle t)).run = t.run + 1 := by
  have settled := settle_events t
  obtain ⟨run, -, -⟩ := settled.frame
  rcases oscillatorCycle_events o (settle t) with ⟨events, same⟩ | ⟨events, ticked⟩
  · exact .inl ⟨(before.events settled).events events, same.trans run⟩
  · exact .inr ⟨(before.tick running).events events, by rw [ticked, run]⟩

/-- A stretch of cycles has at most one tick for each, and the run count tells how many (R3). -/
theorem passCycles_passed (s : State) (cycles : List Oscillator) :
    ∃ n, n ≤ cycles.length ∧ Passed s n (passCycles cycles s)
      ∧ (passCycles cycles s).run = s.run + BitVec.ofNat 48 n := by
  suffices h : ∀ (cycles : List Oscillator) (t : State) (m : Nat), Passed s m t →
      t.run = s.run + BitVec.ofNat 48 m →
      ∃ n, n ≤ cycles.length + m ∧ Passed s n (passCycles cycles t)
        ∧ (passCycles cycles t).run = s.run + BitVec.ofNat 48 n by
    exact h cycles s 0 .start (by simp)
  intro cycles
  induction cycles with
  | nil => exact fun t m before run => ⟨m, by simp, before, run⟩
  | cons o rest ih =>
    intro t m before run
    rw [passCycles_cons, List.length_cons]
    have more : ∀ u n, Passed s n u → u.run = s.run + BitVec.ofNat 48 n → n ≤ m + 1 →
        ∃ n, n ≤ rest.length + 1 + m ∧ Passed s n (passCycles rest u)
          ∧ (passCycles rest u).run = s.run + BitVec.ofNat 48 n := by
      intro u n passed run few
      obtain ⟨k, bound, passed, run⟩ := ih u n passed run
      exact ⟨k, by omega, passed, run⟩
    unfold passCycle
    split
    next running =>
      dsimp only
      split
      next =>
        obtain ⟨same, -, -⟩ := (settle_events t).frame
        exact more _ m (before.events (settle_events t)) (same.trans run) (by omega)
      next =>
        rcases oscillatorCycle_passed o running before with ⟨passed, same⟩ | ⟨passed, ticked⟩
        · exact more _ m passed (same.trans run) (by omega)
        · refine more _ (m + 1) passed ?_ le_rfl
          rw [ticked, run, BitVec.ofNat_add, BitVec.add_assoc]
          rfl
    next => exact more _ m before run (by omega)

/-- A number of ticks below a whole turn of the run count is told by it. -/
theorem ticks_eq {run : Count} {n m : Nat} (small : n < 2 ^ 48) (small' : m < 2 ^ 48)
    (same : run + BitVec.ofNat 48 n = run + BitVec.ofNat 48 m) : n = m := by
  have := congrArg BitVec.toNat (add_left_cancel same)
  simpa only [BitVec.toNat_ofNat, Nat.mod_eq_of_lt small, Nat.mod_eq_of_lt small'] using this

end Sys2Proof.Machine
end

section
/-!
PROOF. What a command and a step do: some events, resets and start steps, or some events with at most one tick among
them; and so what keeps an invariant.
-/

namespace Sys2Proof.Machine

theorem Effects.lives {s t : State} (h : Effects s t) : Lives s t := h.events.lives

/-- A TICK is nothing, or a stretch of cycles with one tick in it (R1, R2, log 8). -/
theorem tick_passed (cycles : List Oscillator) (pins : PinSample) (s : State) :
    ∃ n ≤ 1, Passed s n (tick cycles pins s) := by
  unfold tick
  dsimp only
  split
  next one =>
    obtain ⟨-, short, ticked⟩ := one
    obtain ⟨n, bound, passed, run⟩ :=
      passCycles_passed { s with rawInputs := pins.inputs, rawSync := pins.sync } cycles
    obtain rfl : n = 1 := ticks_eq (by omega) (by norm_num) (run.symm.trans ticked)
    have sampled : Move s { s with rawInputs := pins.inputs, rawSync := pins.sync } := by apply Move.unread
    exact ⟨1, le_rfl, passed.after sampled.events⟩
  next => exact ⟨0, by omega, .start⟩

/-- An event of the clock supervisor comes without a tick (log 8). -/
theorem passTo_passed (owed : List Oscillator) (offered : State → Bool) {event : State → State}
    (events : ∀ u, Effects u (event u)) (few : owed.length < 2 ^ 48) (s : State) :
    ∃ n ≤ 1, Passed s n (passTo owed offered event s) := by
  rcases passTo_cases owed offered event s with same | ⟨taken, still, -⟩
  · rw [same]
    exact ⟨0, by omega, .start⟩
  · obtain ⟨n, bound, passed, run⟩ := passCycles_passed s owed
    obtain rfl : n = 0 := ticks_eq (run := s.run) (by omega) (by norm_num)
      ((run.symm.trans still).trans (by simp))
    rw [taken]
    exact ⟨0, by omega, passed.events (events _).events⟩

theorem owedToMissingEdge_short (k : ClockState) (s : State) :
    (owedToMissingEdge k s).length < 2 ^ 48 := by
  unfold owedToMissingEdge
  split
  · rw [List.length_replicate, Config.missingEdgeCycles]
    omega
  · norm_num

theorem owedToProving_short (s : State) : (owedToProving s).length < 2 ^ 48 := by
  unfold owedToProving
  split <;> norm_num

theorem owedToWindow_short (s : State) : (owedToWindow s).length < 2 ^ 48 := by
  unfold owedToWindow
  split
  · split
    next short =>
      rw [List.length_replicate]
      have := short.2
      rw [Config.cyclesPerTick] at this
      omega
    next => norm_num
  · norm_num

/-- A command's effect where its condition holds, and nothing otherwise. -/
theorem lives_ite {p : Prop} [Decidable p] {s t : State} (h : p → Lives s t) : Lives s (if p then t else s) := by
  split
  next condition => exact h condition
  next => exact .refl

theorem firstMainEdge_effects (s : State) : Effects s (firstMainEdge s) := by
  unfold firstMainEdge restartEdge
  repeat' split
  all_goals first | exact .refl | exact Move.effects (by apply Move.unread)

theorem crossSupply_effects (level : Nat) (s : State) : Effects s (crossSupply level s) := by
  have supplied : Move s { s with supplyUv := level } := by apply Move.unread
  unfold crossSupply
  dsimp only
  split
  next sampled => exact supplied.effects.trans (superviseSupply_move (s := { s with supplyUv := level }) sampled).effects
  next => exact supplied.effects

/-- Every command answers a next state, which events, resets and start steps make, or events with at most one
tick among them. -/
theorem exec_reaches (i : Instr) (s : State) :
    ∃ t, exec i s = .next t ∧ (Lives s t ∨ ∃ n ≤ 1, Passed s n t) := by
  cases i with
  | tick cycles pins => exact ⟨_, rfl, .inr (tick_passed cycles pins s)⟩
  | acceptedEdge i => exact ⟨_, rfl, .inl (tryAcceptEdge_effects i s).lives⟩
  | syncEdge => exact ⟨_, rfl, .inl (trySyncEdge_effects s).lives⟩
  | occurrence k => exact ⟨_, rfl, .inl (DueEvent.run_events (.occurrence k) s).lives⟩
  | pulseEnd l => exact ⟨_, rfl, .inl (endPulse_effects l s).lives⟩
  | keepaliveExpiry c => exact ⟨_, rfl, .inl (expireKeepalive_effects c s).lives⟩
  | failover =>
    exact ⟨_, rfl, .inr (passTo_passed _ _ failover_effects (owedToMissingEdge_short _ s) s)⟩
  | restartSuccess =>
    exact ⟨_, rfl, .inr (passTo_passed _ _ restartSuccess_effects (owedToProving_short s) s)⟩
  | restartMissingEdge =>
    exact ⟨_, rfl, .inr (passTo_passed _ _ restartMissingEdge_effects (owedToMissingEdge_short _ s) s)⟩
  | startWindowExpiry =>
    exact ⟨_, rfl, .inr (passTo_passed _ _ startWindowExpiry_effects (owedToWindow_short s) s)⟩
  | supplyCrossing v => exact ⟨_, rfl, .inl (lives_ite fun _ => (crossSupply_effects v s).lives)⟩
  | holdEntry => exact ⟨_, rfl, .inl (tryEnterHold_effects s).lives⟩
  | holdExit => exact ⟨_, rfl, .inl (tryLeaveHold_effects s).lives⟩
  | storeCompletion readBack => exact ⟨_, rfl, .inl (completeStore_effects readBack s).lives⟩
  | powerReset v => exact ⟨_, rfl, .inl (lives_ite fun _ => moveSupply_lives v s)⟩
  | supplyCollapse v => exact ⟨_, rfl, .inl (lives_ite fun _ => moveSupply_lives v s)⟩
  | supplyFallingBelow1V2 v => exact ⟨_, rfl, .inl (lives_ite fun _ => moveSupply_lives v s)⟩
  | pinReset n => exact ⟨_, rfl, .inl (lives_ite fun _ => pinReset_lives s)⟩
  | startSequence v r =>
    refine ⟨_, rfl, .inl (lives_ite fun ready => startSequence_lives ?_)⟩
    simp only [releasable, Bool.and_eq_true, beq_iff_eq] at ready
    exact ready.1.1.1
  | optionLoad => exact ⟨_, rfl, .inl (lives_ite fun before => (Boot.optionLoad before).lives)⟩
  | clockStart cycles => exact ⟨_, rfl, .inl (lives_ite fun before => runClockStart_lives cycles before)⟩
  | firstMainEdge => exact ⟨_, rfl, .inl (firstMainEdge_effects s).lives⟩
  | requestTake => exact ⟨_, rfl, .inl (takeRequest_events s).lives⟩
  | requestCompletion => exact ⟨_, rfl, .inl (completeRequest_events s).lives⟩
  | closeSession => exact ⟨_, rfl, .inl (runRequest_events requestClose_effects s).lives⟩
  | heartbeat => exact ⟨_, rfl, .inl (runRequest_events requestHeartbeat_effects s).lives⟩
  | setAttention => exact ⟨_, rfl, .inl (runRequest_events requestSetAttention_effects s).lives⟩
  | info => exact ⟨_, rfl, .inl (runRequest_events requestInfo_effects s).lives⟩
  | acquire => exact ⟨_, rfl, .inl (runRequest_events requestAcquire_effects s).lives⟩
  | release => exact ⟨_, rfl, .inl (runRequest_events requestRelease_effects s).lives⟩
  | leaveQueue => exact ⟨_, rfl, .inl (runRequest_events requestLeaveQueue_effects s).lives⟩
  | drive => exact ⟨_, rfl, .inl (runRequest_events requestDrive_effects s).lives⟩
  | lineStatus => exact ⟨_, rfl, .inl (runRequest_events requestLineStatus_effects s).lives⟩
  | schedule => exact ⟨_, rfl, .inl (runRequest_events requestSchedule_effects s).lives⟩
  | batch => exact ⟨_, rfl, .inl (runRequest_events requestBatch_effects s).lives⟩
  | cancel => exact ⟨_, rfl, .inl (runRequest_events requestCancel_effects s).lives⟩
  | cancelLine => exact ⟨_, rfl, .inl (runRequest_events requestCancelLine_effects s).lives⟩
  | queryEntry => exact ⟨_, rfl, .inl (runRequest_events requestQueryEntry_effects s).lives⟩
  | listEntries => exact ⟨_, rfl, .inl (runRequest_events requestListEntries_effects s).lives⟩
  | subscribe => exact ⟨_, rfl, .inl (runRequest_events requestSubscribe_effects s).lives⟩
  | unsubscribe => exact ⟨_, rfl, .inl (runRequest_events requestUnsubscribe_effects s).lives⟩
  | takeCaptures => exact ⟨_, rfl, .inl (runRequest_events requestTakeCaptures_effects s).lives⟩
  | takeNotices => exact ⟨_, rfl, .inl (runRequest_events requestTakeNotices_effects s).lives⟩
  | readTime => exact ⟨_, rfl, .inl (runRequest_events requestReadTime_effects s).lives⟩
  | claimAuthority => exact ⟨_, rfl, .inl (runRequest_events requestClaimAuthority_effects s).lives⟩
  | yieldAuthority => exact ⟨_, rfl, .inl (runRequest_events requestYieldAuthority_effects s).lives⟩
  | setTime => exact ⟨_, rfl, .inl (runRequest_events requestSetTime_effects s).lives⟩
  | shift => exact ⟨_, rfl, .inl (runRequest_events requestShift_effects s).lives⟩
  | armSync => exact ⟨_, rfl, .inl (runRequest_events requestArmSync_effects s).lives⟩
  | disarmSync => exact ⟨_, rfl, .inl (runRequest_events requestDisarmSync_effects s).lives⟩
  | restoreClock => exact ⟨_, rfl, .inl (runRequest_events requestRestoreClock_effects s).lives⟩
  | readOptions => exact ⟨_, rfl, .inl (runRequest_events requestReadOptions_effects s).lives⟩
  | storeOptions => exact ⟨_, rfl, .inl (runRequest_events requestStoreOptions_effects s).lives⟩
  | unknownKind => exact ⟨_, rfl, .inl (runRequest_events requestUnknown_effects s).lives⟩
  | openSession => exact ⟨_, rfl, .inl (runRequest_events requestOpen_effects s).lives⟩
  | selectActive sel =>
    exact ⟨_, rfl, .inl (lives_ite fun _ =>
      (setSelect_effects s sel true).lives.trans (openTransaction_effects sel _).lives)⟩
  | selectCollision sel =>
    exact ⟨_, rfl, .inl (lives_ite fun _ =>
      (setSelect_effects s sel true).lives.trans (collide_effects _).lives)⟩
  | selectRelease sel bits =>
    exact ⟨_, rfl, .inl (lives_ite fun _ => (releaseSelect_effects sel bits s).lives)⟩
  | fetch => exact ⟨_, rfl, .inl (completeFirstByte_effects 0 s).lives⟩
  | statusByteSentWhole b =>
    refine ⟨_, rfl, .inl ?_⟩
    split
    · exact .refl
    · exact (completeFirstByte_effects b s).lives
  | twoWireWrite a bytes =>
    exact ⟨_, rfl, .inl (addressByte_effects _ s (receiveBytes_effects bytes) (sendBits_effects 0 true)).lives⟩
  | twoWireRead a bits acked =>
    exact ⟨_, rfl, .inl (addressByte_effects _ s (receiveBytes_effects []) (sendBits_effects bits acked)).lives⟩
  | busError condition => exact ⟨_, rfl, .inl (busCondition_effects condition s).lives⟩

/-! ## Time that passes with no command -/

/-- A cycle that the free value chooses is events without a tick, or a tick and events (log 8). -/
theorem freeCycle_events (o : Oscillator) (s : State) :
    Events s (oscillatorCycle o (s.useFree 1)) ∨ Events (counted s) (oscillatorCycle o (s.useFree 1)) := by
  rcases oscillatorCycle_events o (s.useFree 1) with ⟨events, -⟩ | ⟨events, -⟩
  · exact .inl ((Move.useFree s 1).events.trans events)
  · exact .inr ((Move.useFree (counted s) 1).events.trans events)

/-- With no command queued one cycle passes, or clock start ends (log 3). -/
theorem idle_reaches (s : State) : Lives s (idle s) ∨ ∃ n ≤ 1, Passed s n (idle s) := by
  unfold idle
  split
  next running =>
    rcases freeCycle_events (settle s).nextOscillator (settle s) with events | events
    · exact .inr ⟨0, by omega, (Passed.start.events (settle_events s)).events events⟩
    · exact .inr ⟨1, le_rfl, (Passed.start.tick running).events events⟩
  next before =>
    split
    · exact .inl (clockStart_lives before)
    · exact .inl ((Move.useFree s 1).lives.trans (superviseCycle_move _ _).lives)
  next => exact .inl .refl
  next => exact .inl .refl

/-! ## What a step keeps -/

/-- A family of conditions, by the number of ticks so far, that each event, reset and start step keeps, and that
each tick hands on to the next of the family. -/
structure StepKept (P : Nat → State → Prop) : Prop where
  /-- No condition reads the queue of commands. -/
  queue : ∀ n s q, P n s → P n { s with pending := q }
  /-- An event, a reset or a start step. -/
  life : ∀ n s t, Life s t → P n s → P n t
  /-- A tick. -/
  tick : ∀ n s, s.phase = .running → P n s → P (n + 1) (counted (settle s))

/-- What events, resets and start steps keep is kept along sequences of them. -/
theorem StepKept.lives {P : Nat → State → Prop} (kept : StepKept P) {n : Nat} {s t : State} (h : Lives s t)
    (hs : P n s) : P n t := reflTransGen_keeps (kept.life n) h hs

theorem StepKept.passed {P : Nat → State → Prop} (kept : StepKept P) {n : Nat} {s t : State}
    (h : Passed s n t) (hs : P 0 s) : P n t := by
  induction h with
  | start => exact hs
  | event _ event ih => exact kept.life _ _ _ (.inl event) ih
  | tick running _ ih => exact kept.tick _ _ running ih

/-- A step keeps the family, with at most one tick. -/
theorem StepKept.step {P : Nat → State → Prop} (kept : StepKept P) {s t : State}
    (stepped : Machine.step s = .next t) (hs : P 0 s) : P 0 t ∨ P 1 t := by
  have go : ∀ u, P 0 u → (Lives u t ∨ ∃ n ≤ 1, Passed u n t) → P 0 t ∨ P 1 t := by
    rintro u hu (lives | ⟨n, bound, passed⟩)
    · exact .inl (kept.lives lives hu)
    · have ht := kept.passed passed hu
      obtain rfl | rfl : n = 0 ∨ n = 1 := by omega
      · exact .inl ht
      · exact .inr ht
  unfold Machine.step at stepped
  split at stepped
  next c rest _ =>
    obtain ⟨u, answer, reached⟩ := exec_reaches c { s with pending := rest }
    obtain rfl := Host.Outcome.next.inj (answer.symm.trans stepped)
    exact go _ (kept.queue 0 s rest hs) reached
  next =>
    obtain rfl := Host.Outcome.next.inj stepped
    exact go s hs (idle_reaches s)

/-- What does not depend on the number of ticks is kept by a step. -/
theorem step_keeps {P : State → Prop} (queue : ∀ s q, P s → P { s with pending := q })
    (life : ∀ s t, Life s t → P s → P t)
    (tick : ∀ s, s.phase = .running → P s → P (settle s) → P (counted (settle s))) {s t : State}
    (stepped : step s = .next t) (hs : P s) : P t := by
  have kept : StepKept fun _ => P :=
    ⟨fun _ => queue, fun _ => life, fun _ u running hu => tick u running hu
      (reflTransGen_keeps (fun _ _ event => life _ _ (.inl event)) (settle_events u) hu)⟩
  exact (kept.step stepped hs).elim id id

end Sys2Proof.Machine
end

section
/-!
PROOF. Every step keeps the bounds of the notice queues and of the capture queues (R107, R108, R124, R125).
-/

namespace Sys2Proof.Machine

/-! ## What the moves of the framework keep -/

/-- What each move, each shift, each engine move and each start step keeps, the device's life keeps. -/
theorem Life.keeps {P : State → Prop} (move : ∀ s t, Move s t → P s → P t)
    (shift : ∀ s t, Shift s t → P s → P t) (engine : ∀ s t, EngineMove s t → P s → P t)
    (boot : ∀ s t, Boot s t → P s → P t) (s t : State) (h : Life s t) (hs : P s) : P t := by
  rcases h with (effect | engineMove) | bootStep
  · exact effect.keeps move shift hs
  · exact engine s t engineMove hs
  · exact boot s t bootStep hs

/-- A step keeps what each of its moves keeps. -/
theorem step_keeps_of_moves {P : State → Prop} (queue : ∀ s q, P s → P { s with pending := q })
    (move : ∀ s t, Move s t → P s → P t) (shift : ∀ s t, Shift s t → P s → P t)
    (engine : ∀ s t, EngineMove s t → P s → P t) (boot : ∀ s t, Boot s t → P s → P t)
    (count : ∀ s, s.phase = .running → P s → P (counted s)) {s t : State} (stepped : step s = .next t)
    (hs : P s) : P t :=
  step_keeps queue (Life.keeps move shift engine boot)
    (fun u running _ settled => count _ ((settle_events u).frame.2.1.trans running) settled) stepped hs

/-- A condition on each client's record, after one record is replaced. -/
theorem forall_client_setClient {Q : ClientId → Client → Prop} {s : State} {c : ClientId} {r : Client}
    (others : ∀ d, Q d (s.client d)) (own : Q c r) (d : ClientId) : Q d ((s.setClient c r).client d) := by
  rw [client_setClient]
  split
  next same => exact same ▸ own
  next => exact others d

theorem client_acceptEdge (i : InputId) (latch : Latch) (s : State) (c : ClientId) :
    (acceptEdge i latch s).client c
      = deliver i (edgeFrom (s.input i).level)
          (captureRecord i (edgeFrom (s.input i).level) ((s.input i).sequence + 1) latch) (s.client c) := by
  simp only [acceptEdge, State.client, getElem_tabulate]

/-! ## The bounds of one client's queues -/

/-- Two records of which not both are gaps (R108). -/
def NotBothGaps (a b : CaptureRecord) : Prop := ¬(a.isGap = true ∧ b.isGap = true)

theorem noAdjacentGaps_iff (q : List CaptureRecord) : noAdjacentGaps q = true ↔ q.IsChain NotBothGaps := by
  induction q with
  | nil => simp [noAdjacentGaps]
  | cons a q ih =>
    cases q with
    | nil => simp [noAdjacentGaps]
    | cons b q =>
      rw [noAdjacentGaps, Bool.and_eq_true, ih, List.isChain_cons_cons, NotBothGaps, Bool.not_eq_true',
        ← Bool.not_eq_true, Bool.and_eq_true]

/-- The bounds of a notice queue (R124, R125). -/
structure NoticesBounded (q : List Notice) : Prop where
  /-- At most 12 records. -/
  length : q.length ≤ 12
  /-- Never two records with one key. -/
  keys : (q.map fun n => (n.kind, n.subject)).Nodup
  /-- A record stands for 1..255 postings. -/
  repeats : ∀ n ∈ q, 1 ≤ n.repeats ∧ n.repeats ≤ 255

/-- The bounds of a capture queue (R107, R108). -/
structure CapturesBounded (q : List CaptureRecord) : Prop where
  /-- At most 16 records. -/
  length : q.length ≤ 16
  /-- The sixteenth is a gap. -/
  sixteenth : q.length = 16 → newestIsGap q = true
  /-- Never two gaps side by side. -/
  gaps : q.IsChain NotBothGaps
  /-- A gap stands for 1..65535 captures. -/
  lost : ∀ n, CaptureRecord.gap n ∈ q → 1 ≤ n ∧ n ≤ 65535

/-- The bounds of both queues of a client. -/
def RecordBounded (r : Client) : Prop := NoticesBounded r.notices ∧ CapturesBounded r.captures

theorem queuesBounded_iff (s : State) : QueuesBounded s ↔ ∀ c, RecordBounded (s.client c) := by
  constructor
  · rintro ⟨length, keys, repeats, captures, sixteenth, gaps, lost⟩ c
    exact ⟨⟨length c, keys c, repeats c⟩,
      ⟨captures c, sixteenth c, (noAdjacentGaps_iff _).mp (gaps c), lost c⟩⟩
  · intro h
    exact ⟨fun c => (h c).1.length, fun c => (h c).1.keys, fun c => (h c).1.repeats,
      fun c => (h c).2.length, fun c => (h c).2.sixteenth, fun c => (noAdjacentGaps_iff _).mpr (h c).2.gaps,
      fun c => (h c).2.lost⟩

theorem NoticesBounded.nil : NoticesBounded [] := ⟨by simp, by simp, by simp⟩

theorem CapturesBounded.nil : CapturesBounded [] := ⟨by simp, by simp, by simp, by simp⟩

/-- A record that is merged into keeps its key (R126). -/
theorem map_key_merge (q : List Notice) (kind : NoticeKind) (subject : BitVec 16) (detail : NoticeDetail)
    (tag : BitVec 16) :
    (q.map fun n =>
        if n.hasKey kind subject then
          { n with repeats := min (n.repeats + 1) 255, detail := detail, tag := tag }
        else n).map (fun n => (n.kind, n.subject))
      = q.map fun n => (n.kind, n.subject) := by
  rw [List.map_map]
  refine List.map_congr_left fun n _ => ?_
  simp only [Function.comp_apply]
  split <;> rfl

/-- A posting keeps the bounds of the queue (R125, R126). -/
theorem NoticesBounded.post {q : List Notice} (h : NoticesBounded q) (run : Count) (kind : NoticeKind)
    (subject : BitVec 16) (detail : NoticeDetail) (tag : BitVec 16) :
    NoticesBounded (postInto run kind subject detail tag q).1 := by
  obtain ⟨length, keys, repeats⟩ := h
  unfold postInto
  split
  next =>
    refine ⟨by rw [List.length_map]; exact length, by rw [map_key_merge]; exact keys, fun n mem => ?_⟩
    obtain ⟨m, old, rfl⟩ := List.mem_map.mp mem
    have := repeats m old
    split
    · dsimp only
      omega
    · exact this
  next fresh =>
    split
    next room =>
      rw [Config.noticeCapacity] at room
      refine ⟨by rw [List.length_append, List.length_singleton]; omega, ?_, fun n mem => ?_⟩
      · rw [List.map_append, List.nodup_append]
        refine ⟨keys, by simp, fun key old new added => ?_⟩
        obtain ⟨m, mem, rfl⟩ := List.mem_map.mp old
        simp only [List.map_cons, List.map_nil, List.mem_singleton] at added
        rintro rfl
        refine fresh (List.any_eq_true.mpr ⟨m, mem, ?_⟩)
        obtain ⟨sameKind, sameSubject⟩ := Prod.mk.inj added
        simp [Notice.hasKey, sameKind, sameSubject]
      · rcases List.mem_append.mp mem with old | new
        · exact repeats n old
        · rw [List.mem_singleton.mp new]
          exact ⟨le_rfl, by norm_num⟩
    next => exact ⟨length, keys, repeats⟩

/-- Taking the oldest notices keeps the bounds (R128). -/
theorem NoticesBounded.drop {q : List Notice} (h : NoticesBounded q) (n : Nat) : NoticesBounded (q.drop n) :=
  ⟨by rw [List.length_drop]; have := h.length; omega,
    (List.drop_sublist n q).map _ |>.nodup h.keys, fun m mem => h.repeats m (List.mem_of_mem_drop mem)⟩

/-- Taking the oldest captures keeps the bounds (R109). -/
theorem CapturesBounded.drop {q : List CaptureRecord} (h : CapturesBounded q) (n : Nat) :
    CapturesBounded (q.drop n) := by
  refine ⟨?_, fun full => ?_, h.gaps.drop n, fun m mem => h.lost m (List.mem_of_mem_drop mem)⟩
  · rw [List.length_drop]
    have := h.length
    omega
  · rw [List.length_drop] at full
    have := h.length
    obtain rfl : n = 0 := by omega
    exact h.sixteenth (by simpa using full)

/-- A real record is placed within the bounds (R108). -/
theorem CapturesBounded.place {q : List CaptureRecord} (h : CapturesBounded q) {r : CaptureRecord}
    (real : r.isGap = false) : CapturesBounded (placeCapture r q) := by
  obtain ⟨length, sixteenth, gaps, lost⟩ := h
  unfold placeCapture
  split
  next room =>
    rw [Config.captureRoom] at room
    refine ⟨?_, fun full => ?_, ?_, fun n mem => ?_⟩
    · rw [List.length_append, List.length_singleton]
      omega
    · rw [List.length_append, List.length_singleton] at full
      omega
    · refine gaps.append (.singleton r) fun a _ b last => ?_
      obtain rfl : r = b := by simpa using last
      simp [NotBothGaps, real]
    · rcases List.mem_append.mp mem with old | new
      · exact lost n old
      · rw [← List.mem_singleton.mp new] at real
        cases real
  next full =>
    rw [Config.captureRoom] at full
    split
    next n last =>
      obtain ⟨older, rfl⟩ := List.getLast?_eq_some_iff.mp last
      rw [List.dropLast_concat]
      rw [List.length_append, List.length_singleton] at length
      refine ⟨by rw [List.length_append, List.length_singleton]; exact length, fun _ => ?_, ?_, fun m mem => ?_⟩
      · simp [newestIsGap, CaptureRecord.isGap]
      · rw [List.isChain_append] at gaps ⊢
        obtain ⟨before, -, between⟩ := gaps
        refine ⟨before, .singleton _, fun a mem b last => ?_⟩
        obtain rfl : CaptureRecord.gap (min (n + 1) 65535) = b := by simpa using last
        exact between a mem (.gap n) (by simp)
      · rcases List.mem_append.mp mem with old | new
        · exact lost m (List.mem_append_left _ old)
        · obtain rfl : m = min (n + 1) 65535 := CaptureRecord.gap.inj (List.mem_singleton.mp new)
          omega
    next other =>
      have notGap : ∀ a, q.getLast? = some a → a.isGap = false := by
        intro a last
        cases a with
        | gap n => exact absurd last (other n)
        | real => rfl
      have fifteen : q.length ≠ 16 := by
        intro sixteen
        have newest := sixteenth sixteen
        rw [newestIsGap, Option.any_eq_true] at newest
        obtain ⟨a, last, gap⟩ := newest
        rw [notGap a last] at gap
        cases gap
      refine ⟨by rw [List.length_append, List.length_singleton]; omega, fun _ => ?_, ?_, fun m mem => ?_⟩
      · simp [newestIsGap, CaptureRecord.isGap]
      · refine gaps.append (.singleton _) fun a last b _ => ?_
        simp [NotBothGaps, notGap a last]
      · rcases List.mem_append.mp mem with old | new
        · exact lost m old
        · obtain rfl : m = 1 := CaptureRecord.gap.inj (List.mem_singleton.mp new)
          exact ⟨le_rfl, by norm_num⟩

/-- A delivery keeps the bounds (R101, R108). -/
theorem RecordBounded.deliver {r : Client} (h : RecordBounded r) (i : InputId) (edge : EdgeKind)
    (sequence : BitVec 16) (latch : Latch) :
    RecordBounded (deliver i edge (captureRecord i edge sequence latch) r) := by
  unfold Machine.deliver
  split
  · split
    · exact ⟨h.1, h.2.place rfl⟩
    · exact h
  · exact h

/-- A move of a client's record keeps the bounds. -/
theorem RecordBounded.move {run : Count} {r r' : Client} (h : RecordBounded r)
    (change : RecordMove run r r') : RecordBounded r' := by
  cases change with
  | post kind subject detail tag _ => exact ⟨h.1.post run kind subject detail tag, h.2⟩
  | takeNotices n => exact ⟨h.1.drop n, h.2⟩
  | takeCaptures n => exact ⟨h.1, h.2.drop n⟩
  | marks | place | subscribe | renew => exact h

/-! ## The steps -/

/-- The bounds of every client's queues. -/
def AllBounded (s : State) : Prop := ∀ c, RecordBounded (s.client c)

theorem AllBounded.move {s t : State} (h : Move s t) (bounded : AllBounded s) : AllBounded t := by
  cases h with
  | record c r change => exact forall_client_setClient bounded ((bounded c).move change)
  | openSession c => exact forall_client_setClient bounded (bounded c)
  | edge i latch => exact fun c => client_acceptEdge i latch s c ▸ (bounded c).deliver i _ _ latch
  | clear c => exact forall_client_setClient bounded ⟨.nil, .nil⟩
  | _ => exact bounded

theorem AllBounded.shift {s t : State} (h : Shift s t) (bounded : AllBounded s) : AllBounded t := by
  cases h <;> exact bounded

theorem AllBounded.engine {s t : State} (h : EngineMove s t) (bounded : AllBounded s) : AllBounded t := by
  cases h with
  | dequeue c => exact forall_client_setClient bounded (bounded c)
  | hold c => exact forall_client_setClient bounded (bounded c)
  | complete j => exact forall_client_setClient bounded (bounded j.client)
  | answer | choose => exact bounded

/-- After a reset every client has its reset record. -/
theorem client_reset (q : List Instr) (c : ClientId) :
    State.client { State.reset with pending := q } c = Client.reset :=
  Vector.getElem_replicate c.isLt

theorem AllBounded.boot {s t : State} (h : Boot s t) (bounded : AllBounded s) : AllBounded t := by
  cases h with
  | reset => exact fun c => client_reset s.pending c ▸ ⟨.nil, .nil⟩
  | start | optionLoad | clockStart => exact bounded

/-- Settles O54: the bounds client by client, kept by each move that touches a queue. -/
theorem everyStepKeepsTheQueuesBounded : Obligations.EveryStepKeepsTheQueuesBounded := by
  intro s t bounded stepped
  rw [queuesBounded_iff] at bounded ⊢
  exact step_keeps_of_moves (P := AllBounded) (fun _ _ h => h) (fun _ _ => .move) (fun _ _ => .shift)
    (fun _ _ => .engine) (fun _ _ => .boot) (fun _ _ h => h) stepped bounded

end Sys2Proof.Machine
end

section
/-!
PROOF. Every step keeps each entry with the handle of its slot and fields in range (R55, R57).
-/

namespace Sys2Proof.Machine

/-! ## Booking and bringing forward -/

theorem slot_insertAtSlot (c : ClientId) (b : Booking) (k m : SlotId) (s : State) :
    (insertAtSlot c b k s).slot m
      = if k = m then some { handle := handleOf k (nextUseCount (s.useCount k)), owner := c, body := b }
        else s.slot m :=
  slot_setSlot s k m _

theorem useCount_insertAtSlot (c : ClientId) (b : Booking) (k m : SlotId) (s : State) :
    (insertAtSlot c b k s).useCount m = if k = m then nextUseCount (s.useCount k) else s.useCount m := by
  simp only [insertAtSlot, State.useCount, Vector.getElem_set, Fin.ext_iff]

/-- A use count that has been advanced is not 0 (R57). -/
theorem nextUseCount_ne_zero (u : BitVec 10) : nextUseCount u ≠ 0 := by
  unfold nextUseCount
  split
  next => decide
  next below =>
    intro wrapped
    exact below (by bv_omega)

/-- An entry that has occurrences left is brought forward by whole periods, with what is left of its count (R71,
R87). -/
theorem consume_some {b b' : Booking} {n : Nat} (left : (consume b n).1 = some b') :
    ∃ r count, b.rep = some r
      ∧ b' = { b with due := b.due + BitVec.ofNat 48 (n * r.period.toNat), rep := some { r with count := count } }
      ∧ (r.count = .unlimited ∧ count = .unlimited
        ∨ ∃ m, r.count = .times m ∧ n < m ∧ count = .times (m - n)) := by
  unfold consume at left
  split at left
  next => cases left
  next r rep =>
    dsimp only at left
    split at left
    next unlimited =>
      refine ⟨r, .unlimited, rep, ?_, .inl ⟨unlimited, rfl⟩⟩
      rw [← Option.some.inj left, ← unlimited, ← rep]
    next m times =>
      split at left
      next => cases left
      next more =>
        exact ⟨r, .times (m - n), rep, (Option.some.inj left).symm, .inr ⟨m, times, by omega, rfl⟩⟩

/-! ## The steps -/

/-- The handle and the ranges of what one slot holds (R55, R57). -/
structure EntryNamed (k : SlotId) (u : BitVec 10) (e : Entry) : Prop where
  /-- The handle is that of the slot with its use count, which is not 0. -/
  handle : e.handle = handleOf k u ∧ u ≠ 0
  /-- The ranges of a repeat. -/
  repeats : ∀ r, e.body.rep = some r → 100 ≤ r.period.toNat ∧ ∀ n, r.count = .times n → 1 ≤ n
  /-- The range of a pulse width. -/
  width : ∀ v w, e.body.action = .pulse v w → 1 ≤ w.toNat

/-- Every slot's entry is named. -/
def AllNamed (s : State) : Prop := ∀ k e, s.slot k = some e → EntryNamed k (s.useCount k) e

theorem entriesNamed_iff (s : State) : EntriesNamed s ↔ AllNamed s :=
  ⟨fun ⟨handle, repeats, width⟩ k e held => ⟨handle k e held, (repeats k e · held), (width k e · · held)⟩,
    fun h => ⟨fun k e held => (h k e held).handle, fun k e r held => (h k e held).repeats r,
      fun k e v w held => (h k e held).width v w⟩⟩

/-- A booked entry is named (R57, R63). -/
theorem AllNamed.book {s : State} (named : AllNamed s) (c : ClientId) {b : Booking} (k : SlotId)
    (inRange : BookingInRange b) : AllNamed (insertAtSlot c b k s) := by
  intro m e held
  rw [slot_insertAtSlot] at held
  rw [useCount_insertAtSlot]
  split at held
  next same =>
    subst same
    rw [if_pos rfl]
    obtain rfl := Option.some.inj held
    refine ⟨⟨rfl, nextUseCount_ne_zero _⟩, fun r rep => ?_, inRange.width⟩
    obtain ⟨period, count⟩ := inRange.rep r rep
    exact ⟨period, fun n times => by have := count n times; omega⟩
  next other =>
    rw [if_neg other]
    exact named m e held

/-- An entry that is brought forward stays named (R71, R87). -/
theorem AllNamed.advance {s : State} (named : AllNamed s) {k : SlotId} {e : Entry} {n : Nat} {b : Booking}
    (held : s.slot k = some e) (left : (consume e.body n).1 = some b) :
    AllNamed (s.setSlot k (some { e with body := b })) := by
  intro m f held'
  rw [slot_setSlot] at held'
  split at held'
  next same =>
    subst same
    obtain rfl := Option.some.inj held'
    obtain ⟨handle, repeats, width⟩ := named k e held
    obtain ⟨r, count, rep, rfl, counts⟩ := consume_some left
    refine ⟨handle, fun r' rep' => ?_, width⟩
    obtain rfl := Option.some.inj rep'
    refine ⟨(repeats r rep).1, fun m times => ?_⟩
    rcases counts with ⟨-, unlimited⟩ | ⟨m', -, more, some⟩
    · rw [unlimited] at times
      cases times
    · rw [some] at times
      cases times
      omega
  next => exact named m f held'

theorem AllNamed.move {s t : State} (h : Move s t) (named : AllNamed s) : AllNamed t := by
  cases h with
  | remove v change =>
    intro k e held
    rcases change k with gone | same
    · exact absurd (gone.symm.trans held) (by simp)
    · exact named k e (same.symm.trans held)
  | book c b k _ _ inRange => exact named.book c k inRange
  | _ => exact named

theorem AllNamed.shift {s t : State} (h : Shift s t) (named : AllNamed s) : AllNamed t := by
  cases h with
  | advance k e n b held left => exact named.advance held left
  | retime | leave | clock => exact named

theorem AllNamed.engine {s t : State} (h : EngineMove s t) (named : AllNamed s) : AllNamed t := by
  cases h <;> exact named

/-- After a reset every slot is empty. -/
theorem slot_reset (q : List Instr) (k : SlotId) : State.slot { State.reset with pending := q } k = none :=
  Vector.getElem_replicate k.isLt

theorem AllNamed.boot {s t : State} (h : Boot s t) (named : AllNamed s) : AllNamed t := by
  cases h with
  | reset => exact fun k e held => absurd ((slot_reset s.pending k).symm.trans held) (by simp)
  | start | optionLoad | clockStart => exact named

/-- Settles O55: slot by slot, a booking forms the handle, and bringing an entry forward keeps it. -/
theorem everyStepKeepsTheEntriesNamed : Obligations.EveryStepKeepsTheEntriesNamed := by
  intro s t named stepped
  rw [entriesNamed_iff] at named ⊢
  exact step_keeps_of_moves (P := AllNamed) (fun _ _ h => h) (fun _ _ => .move) (fun _ _ => .shift)
    (fun _ _ => .engine) (fun _ _ => .boot) (fun _ _ h => h) stepped named

end Sys2Proof.Machine
end

section
/-!
PROOF. Every step keeps what a client holds tied to its OPEN session, and lines, wait lists and entries in agreement
(R18, R36, R54, R103, R121).
-/

namespace Sys2Proof.Machine

/-! ## The parts of ownership -/

/-- The holder and the waiters of one line, where `isOpen` says which clients are OPEN (R36, R121). -/
structure LineOwned (isOpen : ClientId → Bool) (r : Line) : Prop where
  /-- The holder is OPEN. -/
  holder : ∀ lease, r.lease = some lease → isOpen lease.client = true
  /-- The waiters are OPEN. -/
  waiters : ∀ w ∈ r.waiters, isOpen w.client = true
  /-- A FREE line has no waiter. -/
  onHeld : r.lease = none → r.waiters = []
  /-- The waiters are distinct. -/
  distinct : (r.waiters.map Waiter.client).Nodup
  /-- There are at most 3. -/
  atMostThree : r.waiters.length ≤ 3
  /-- The holder does not wait. -/
  holderNotWaiting : ∀ c, r.heldBy c = true → r.awaitedBy c = false

/-- What the time authority, the lines and the calendar hold for the clients. -/
structure HeldByOpen (isOpen : ClientId → Bool) (authority : Option ClientId) (armed : Option ArmedLoad)
    (line : LineId → Line) (slot : SlotId → Option Entry) : Prop where
  /-- The authority holder is OPEN (R18). -/
  token : ∀ c, authority = some c → isOpen c = true
  /-- A load is armed only while the authority is held (R18). -/
  load : armed.isSome = true → authority.isSome = true
  /-- The lines (R36). -/
  lines : ∀ l, LineOwned isOpen (line l)
  /-- The entries (R54). -/
  entries : ∀ k e, slot k = some e → (line e.body.line).heldBy e.owner = true

/-- Nothing is left with a client that is not OPEN (R103, R121). -/
def RecordOwned (r : Client) : Prop :=
  r.isOpen = false → (∀ i, r.sub i = none) ∧ r.notices = [] ∧ r.captures = [] ∧ r.lost = false

/-- Ownership, by its parts. -/
def AllOwned (s : State) : Prop :=
  HeldByOpen s.isOpen s.authority s.armed s.line s.slot ∧ ∀ c, RecordOwned (s.client c)

theorem owned_iff (s : State) : Owned s ↔ AllOwned s := by
  constructor
  · intro h
    exact ⟨⟨h.authority, h.armed,
      fun l => ⟨h.holders l, h.waiters l, h.waitersOnHeld l, h.distinct l, h.atMostThree l,
        h.holderNotWaiting l⟩, h.entries⟩,
      fun c closed => ⟨fun i => h.subscriptions c i closed, h.queues c closed⟩⟩
  · rintro ⟨⟨authority, armed, lines, entries⟩, records⟩
    exact ⟨authority, armed, fun l => (lines l).holder, fun l => (lines l).waiters,
      fun l => (lines l).onHeld, fun l => (lines l).distinct, fun l => (lines l).atMostThree,
      fun l => (lines l).holderNotWaiting, entries, fun c i closed => (records c closed).1 i,
      fun c closed => (records c closed).2⟩

/-! ## What becomes of the clients -/

/-- Where the clients that are OPEN stay OPEN, but for one that holds nothing. -/
theorem HeldByOpen.of_open {before after : ClientId → Bool} {authority : Option ClientId}
    {armed : Option ArmedLoad} {line : LineId → Line} {slot : SlotId → Option Entry}
    (h : HeldByOpen before authority armed line slot) (stays : ∀ c, before c = true →
      after c = true ∨ (authority ≠ some c ∧ ∀ l, (line l).heldBy c = false ∧ (line l).awaitedBy c = false)) :
    HeldByOpen after authority armed line slot := by
  refine ⟨fun c holder => ?_, h.load, fun l => ?_, h.entries⟩
  · exact (stays c (h.token c holder)).resolve_right fun ⟨other, _⟩ => other holder
  · have old := h.lines l
    refine ⟨fun lease leased => ?_, fun w mem => ?_, old.onHeld, old.distinct, old.atMostThree,
      old.holderNotWaiting⟩
    · refine (stays _ (old.holder lease leased)).resolve_right fun ⟨_, free⟩ => ?_
      simpa [Line.heldBy, Line.holder, leased] using (free l).1
    · refine (stays _ (old.waiters w mem)).resolve_right fun ⟨_, free⟩ => ?_
      exact (Line.awaitedBy_eq_false_iff ..).mp (free l).2 w mem rfl

/-- One client's record is replaced, its session staying OPEN if it was. -/
theorem AllOwned.setClient {s : State} (h : AllOwned s) {c : ClientId} {r : Client}
    (opened : (s.client c).isOpen = true → r.isOpen = true) (bare : RecordOwned r) :
    AllOwned (s.setClient c r) := by
  refine ⟨h.1.of_open fun d isOpen => .inl ?_,
    forall_client_setClient (Q := fun _ r => RecordOwned r) h.2 bare⟩
  exact forall_client_setClient (Q := fun d r => (s.client d).isOpen = true → r.isOpen = true)
    (fun _ => id) opened d isOpen

/-- A move of one client's record keeps its session OPEN, and keeps it bare where it is not. -/
theorem RecordMove.owned {run : Count} {r r' : Client} (h : RecordMove run r r') (bare : RecordOwned r) :
    r'.isOpen = r.isOpen ∧ RecordOwned r' := by
  cases h with
  | post _ _ _ _ opened => exact ⟨rfl, fun closed => absurd (opened.symm.trans closed) (by decide)⟩
  | subscribe _ opened => exact ⟨rfl, fun closed => absurd (opened.symm.trans closed) (by decide)⟩
  | marks | place => exact ⟨rfl, bare⟩
  | takeNotices n =>
    refine ⟨rfl, fun closed => ?_⟩
    obtain ⟨subs, notices, captures, -⟩ := bare closed
    exact ⟨subs, by simp [notices], captures, rfl⟩
  | takeCaptures n =>
    refine ⟨rfl, fun closed => ?_⟩
    obtain ⟨subs, notices, captures, lost⟩ := bare closed
    exact ⟨subs, notices, by simp [captures], lost⟩
  | renew d d' opened =>
    have before : r.isOpen = true := by simp [Client.isOpen, opened, Session.data?]
    exact ⟨before.symm, fun closed => absurd closed (by simp [Client.isOpen, Session.data?])⟩

/-- A delivery leaves the session as it is, and a client with no subscription as it was (R101). -/
theorem RecordOwned.deliver {r : Client} (bare : RecordOwned r) (i : InputId) (edge : EdgeKind)
    (record : CaptureRecord) :
    (Machine.deliver i edge record r).isOpen = r.isOpen ∧ RecordOwned (Machine.deliver i edge record r) := by
  unfold Machine.deliver
  split
  next choice sub =>
    split
    · refine ⟨rfl, fun closed => ?_⟩
      rw [(bare closed).1 i] at sub
      cases sub
    · exact ⟨rfl, bare⟩
  next => exact ⟨rfl, bare⟩

theorem AllOwned.acceptEdge {s : State} (h : AllOwned s) (i : InputId) (latch : Latch) :
    AllOwned (acceptEdge i latch s) := by
  have delivered := fun c => (h.2 c).deliver i (edgeFrom (s.input i).level)
    (captureRecord i (edgeFrom (s.input i).level) ((s.input i).sequence + 1) latch)
  refine ⟨h.1.of_open fun c isOpen => .inl ?_, fun c => client_acceptEdge i latch s c ▸ (delivered c).2⟩
  rw [State.isOpen, client_acceptEdge]
  exact (delivered c).1.trans isOpen

/-- A client of whom nothing is left is closed (R121). -/
theorem AllOwned.clearClient {s : State} (h : AllOwned s) {c : ClientId} {after : Session}
    (ready : ReadyToClear c s) : AllOwned (clearClient c after s) := by
  refine ⟨h.1.of_open fun d isOpen => ?_, ?_⟩
  · by_cases same : c = d
    · subst same
      exact .inr ⟨ready.authority, ready.lines⟩
    · refine .inl (Eq.trans ?_ isOpen)
      simp only [State.isOpen, Machine.clearClient, State.client, State.modifyClient, State.setClient]
      rw [Vector.getElem_set_ne _ _ (by simpa [Fin.ext_iff] using same)]
  · refine forall_client_setClient (Q := fun _ r => RecordOwned r) h.2 fun _ => ⟨fun i => ?_, rfl, rfl, rfl⟩
    simp [Client.sub, ready.subs]

/-! ## What becomes of the lines -/

theorem heldBy_iff {r : Line} {c : ClientId} :
    r.heldBy c = true ↔ ∃ lease, r.lease = some lease ∧ lease.client = c := by
  simp [Line.heldBy, Line.holder]

/-- Of two lines with the same lease, the second with some of the waiters of the first. -/
theorem LineOwned.of_sublist {isOpen : ClientId → Bool} {r r' : Line} (h : LineOwned isOpen r)
    (lease : r'.lease = r.lease) (waiters : r'.waiters.Sublist r.waiters) : LineOwned isOpen r' := by
  refine ⟨fun l leased => h.holder l (lease.symm.trans leased), fun w mem => h.waiters w (waiters.subset mem),
    fun free => ?_, (waiters.map _).nodup h.distinct, waiters.length_le.trans h.atMostThree, fun c held => ?_⟩
  · exact List.sublist_nil.mp (h.onHeld (lease.symm.trans free) ▸ waiters)
  · rw [Line.heldBy, Line.holder, lease] at held
    rw [Line.awaitedBy_eq_false_iff]
    exact fun w mem => (Line.awaitedBy_eq_false_iff ..).mp (h.holderNotWaiting c held) w (waiters.subset mem)

/-- The lines change, their leases staying and no waiter entering. -/
theorem AllOwned.lines {s : State} (h : AllOwned s) {t : State} (isOpen : t.isOpen = s.isOpen)
    (authority : t.authority = s.authority) (armed : t.armed = s.armed) (slots : t.slot = s.slot)
    (records : ∀ c, RecordOwned (t.client c))
    (change : ∀ l, (t.line l).lease = (s.line l).lease ∧ (t.line l).waiters.Sublist (s.line l).waiters) :
    AllOwned t := by
  obtain ⟨held, -⟩ := h
  refine ⟨?_, records⟩
  rw [isOpen, authority, armed, slots]
  refine ⟨held.token, held.load, fun l => (held.lines l).of_sublist (change l).1 (change l).2,
    fun k e stands => ?_⟩
  rw [Line.heldBy, Line.holder, (change _).1]
  exact held.entries k e stands

/-- One line changes, and the entries on it are its holder's. -/
theorem AllOwned.setLine {s : State} (h : AllOwned s) {l : LineId} {r : Line} (owned : LineOwned s.isOpen r)
    (entries : ∀ k e, s.slot k = some e → e.body.line = l → r.heldBy e.owner = true) :
    AllOwned (s.setLine l r) := by
  refine ⟨⟨h.1.token, h.1.load, fun m => ?_, fun k e stands => ?_⟩, h.2⟩
  · rw [line_setLine]
    split
    · exact owned
    · exact h.1.lines m
  · rw [line_setLine]
    split
    next on => exact entries k e stands on.symm
    next => exact h.1.entries k e stands

/-- A FREE line is granted (R37). -/
theorem LineOwned.acquire {isOpen : ClientId → Bool} {r : Line} (h : LineOwned isOpen r) {c : ClientId}
    (free : r.lease = none) (opened : isOpen c = true) (park level : Level) :
    LineOwned isOpen { r with lease := some { client := c, park := park }, level := level } := by
  have empty := h.onHeld free
  refine ⟨?_, h.waiters, ?_, h.distinct, h.atMostThree, fun d _ => ?_⟩
  · rintro lease ⟨⟩
    exact opened
  · rintro ⟨⟩
  · simp [Line.awaitedBy, empty]

/-- A client enters a wait list (R37). -/
theorem LineOwned.enqueue {isOpen : ClientId → Bool} {r : Line} (h : LineOwned isOpen r) {c : ClientId}
    {lease : Lease} (leased : r.lease = some lease) (other : lease.client ≠ c) (outside : r.awaitedBy c = false)
    (room : r.waiters.length < 3) (opened : isOpen c = true) (park : Level) :
    LineOwned isOpen { r with waiters := r.waiters ++ [{ client := c, park := park }] } := by
  have absent := (Line.awaitedBy_eq_false_iff ..).mp outside
  refine ⟨h.holder, fun w mem => ?_, fun free => ?_, ?_, ?_, fun d held => ?_⟩
  · rcases List.mem_append.mp mem with old | new
    · exact h.waiters w old
    · rw [List.mem_singleton.mp new]
      exact opened
  · cases leased.symm.trans free
  · rw [List.map_append, List.nodup_append]
    refine ⟨h.distinct, by simp, fun d old e new => ?_⟩
    obtain ⟨w, mem, rfl⟩ := List.mem_map.mp old
    obtain rfl : e = c := by simpa using new
    exact absent w mem
  · rw [List.length_append, List.length_singleton]
    exact room
  · have notWaiting := (Line.awaitedBy_eq_false_iff ..).mp (h.holderNotWaiting d held)
    rw [Line.awaitedBy_eq_false_iff]
    intro w mem
    rcases List.mem_append.mp mem with old | new
    · exact notWaiting w old
    · obtain ⟨l, same, rfl⟩ := heldBy_iff.mp held
      obtain rfl := Option.some.inj (leased.symm.trans same)
      rw [List.mem_singleton.mp new]
      exact other.symm

/-- The lease ends (R39 to R41). -/
theorem LineOwned.handOn {isOpen : ClientId → Bool} {r : Line} (h : LineOwned isOpen r) (supply : SupplyState)
    (idle : Level) : LineOwned isOpen (r.handedOn supply idle) := by
  obtain ⟨-, waiters, -, distinct, atMostThree, -⟩ := h
  unfold Line.handedOn
  split
  next w ws list =>
    rw [list] at waiters distinct atMostThree
    obtain ⟨outside, distinct⟩ := List.nodup_cons.mp distinct
    refine ⟨?_, fun v mem => waiters v (List.mem_cons_of_mem w mem), ?_, distinct,
      (Nat.le_succ _).trans atMostThree, fun c held => ?_⟩
    · rintro lease ⟨⟩
      exact waiters w List.mem_cons_self
    · rintro ⟨⟩
    · obtain ⟨lease, ⟨⟩, rfl⟩ := heldBy_iff.mp held
      rw [Line.awaitedBy_eq_false_iff]
      exact fun v mem same => outside (List.mem_map.mpr ⟨v, mem, same⟩)
  next => exact ⟨by simp, by simp, by simp, by simp, by simp, by simp [heldBy_iff]⟩

/-- Parking leaves the lease and the wait list (R53). -/
theorem parked_lease_waiters (r : Line) : r.parked.lease = r.lease ∧ r.parked.waiters = r.waiters := by
  unfold Line.parked
  split
  · exact ⟨rfl, rfl⟩
  · exact ⟨rfl, rfl⟩

/-! ## What becomes of the entries -/

/-- Entries change or go, each that stands being on a line of its owner. -/
theorem AllOwned.slots {s t : State} (h : AllOwned s) (isOpen : t.isOpen = s.isOpen)
    (authority : t.authority = s.authority) (armed : t.armed = s.armed) (lines : t.line = s.line)
    (clients : t.client = s.client)
    (entries : ∀ k e, t.slot k = some e → (s.line e.body.line).heldBy e.owner = true) : AllOwned t := by
  unfold AllOwned
  rw [isOpen, authority, armed, lines, clients]
  exact ⟨⟨h.1.token, h.1.load, h.1.lines, entries⟩, h.2⟩

/-- A booking whose checks have passed is on a line of the booker (R60). -/
theorem bookingStatus_none_heldBy {c : ClientId} {b : Booking} {s : State} (passed : bookingStatus c b s = none) :
    (s.line b.line).heldBy c = true := by
  unfold bookingStatus at passed
  split at passed
  next => cases passed
  next holder => simpa using holder

/-! ## The steps -/

theorem AllOwned.move {s t : State} (h : Move s t) (owned : AllOwned s) : AllOwned t := by
  cases h with
  | record c r change =>
    obtain ⟨same, bare⟩ := change.owned (owned.2 c)
    exact owned.setClient same.trans bare
  | openSession c period mask =>
    exact owned.setClient (fun _ => rfl) fun closed => absurd closed (by simp [Client.isOpen, Session.data?])
  | edge i latch => exact owned.acceptEdge i latch
  | clear c after _ ready => exact owned.clearClient ready
  | token authority armed holder held =>
    exact ⟨⟨fun c own => (holder c own).elim (owned.1.token c) id, held, owned.1.lines, owned.1.entries⟩,
      owned.2⟩
  | lines v change =>
    exact owned.lines rfl rfl rfl rfl owned.2 fun l => ⟨(change l).lease, (change l).waiters⟩
  | acquire l c park _ free opened =>
    refine owned.setLine ((owned.1.lines l).acquire free opened park _) fun k e stands on => ?_
    obtain ⟨lease, leased, -⟩ := heldBy_iff.mp (owned.1.entries k e stands)
    rw [on, free] at leased
    cases leased
  | enqueue l c park lease leased other outside room opened =>
    exact owned.setLine ((owned.1.lines l).enqueue leased other outside room opened park)
      fun k e stands on => on ▸ owned.1.entries k e stands
  | handOn l c held bare =>
    refine owned.setLine ((owned.1.lines l).handOn _ _) fun k e stands on => ?_
    obtain ⟨lease, leased, holder⟩ := heldBy_iff.mp held
    obtain ⟨lease', leased', owner⟩ := heldBy_iff.mp (owned.1.entries k e stands)
    rw [on, leased] at leased'
    obtain rfl := Option.some.inj leased'
    exact absurd on (bare k e stands (owner.symm.trans holder))
  | enterHold =>
    refine owned.lines rfl rfl rfl rfl owned.2 fun l => ?_
    rw [line_parkLines]
    obtain ⟨lease, waiters⟩ := parked_lease_waiters (s.line l)
    exact ⟨lease, waiters ▸ .refl _⟩
  | remove v change =>
    refine owned.slots rfl rfl rfl rfl rfl fun k e stands => ?_
    rcases change k with gone | same
    · exact absurd (gone.symm.trans stands) (by simp)
    · exact owned.1.entries k e (same.symm.trans stands)
  | book c b k _ _ _ passed =>
    refine owned.slots rfl rfl rfl rfl rfl fun m e stands => ?_
    rw [slot_insertAtSlot] at stands
    split at stands
    next =>
      obtain rfl := Option.some.inj stands
      exact bookingStatus_none_heldBy passed
    next => exact owned.1.entries m e stands
  | unread | store | endStore | filter | clock => exact owned

theorem AllOwned.shift {s t : State} (h : Shift s t) (owned : AllOwned s) : AllOwned t := by
  cases h with
  | advance k e n b held left =>
    refine owned.slots rfl rfl rfl rfl rfl fun m f stands => ?_
    rw [slot_setSlot] at stands
    split at stands
    next =>
      obtain rfl := Option.some.inj stands
      obtain ⟨r, count, -, rfl, -⟩ := consume_some left
      exact owned.1.entries k e held
    next => exact owned.1.entries m f stands
  | retime | leave | clock => exact owned

theorem AllOwned.engine {s t : State} (h : EngineMove s t) (owned : AllOwned s) : AllOwned t := by
  cases h with
  | dequeue c => exact owned.setClient (r := { s.client c with request := none }) id (owned.2 c)
  | hold c f => exact owned.setClient (r := { s.client c with response := _ }) id (owned.2 c)
  | complete j response =>
    exact owned.setClient (r := { s.client j.client with response := _ }) id (owned.2 j.client)
  | answer | choose => exact owned

/-- After a reset every line has its reset record. -/
theorem line_reset (q : List Instr) (l : LineId) : State.line { State.reset with pending := q } l = Line.reset :=
  Vector.getElem_replicate l.isLt

/-- After a reset nobody holds anything. -/
theorem AllOwned.reset (q : List Instr) : AllOwned { State.reset with pending := q } := by
  refine ⟨⟨by simp [State.reset], by simp [State.reset], fun l => ?_, fun k e stands => ?_⟩, fun c _ => ?_⟩
  · rw [line_reset]
    exact ⟨by simp [Line.reset], by simp [Line.reset], fun _ => rfl, by simp [Line.reset],
      by simp [Line.reset], by simp [heldBy_iff, Line.reset]⟩
  · rw [slot_reset] at stands
    cases stands
  · rw [client_reset]
    exact ⟨fun i => Vector.getElem_replicate i.isLt, rfl, rfl, rfl⟩

theorem line_optionLoad (s : State) (l : LineId) :
    (optionLoad s).line l = { s.line l with level := (loadStep s).idleLevel l } := by
  simp only [optionLoad, idleStep, State.line, getElem_tabulate]
  rfl

theorem AllOwned.boot {s t : State} (h : Boot s t) (owned : AllOwned s) : AllOwned t := by
  cases h with
  | reset => exact .reset s.pending
  | optionLoad =>
    refine owned.lines rfl rfl rfl rfl owned.2 fun l => ?_
    rw [line_optionLoad]
    exact ⟨rfl, .refl _⟩
  | start | clockStart => exact owned

/-- Settles O53: by its parts, each move of a step keeps ownership. -/
theorem everyStepKeepsOwnership : Obligations.EveryStepKeepsOwnership := by
  intro s t owned stepped
  rw [owned_iff] at owned ⊢
  exact step_keeps_of_moves (P := AllOwned) (fun _ _ h => h) (fun _ _ => .move) (fun _ _ => .shift)
    (fun _ _ => .engine) (fun _ _ => .boot) (fun _ _ h => h) stepped owned

end Sys2Proof.Machine
end

section
/-!
PROOF. Every step keeps FREE lines at their idle levels and, in a supply hold, HELD lines at their park levels without
a pulse (R33, R35, R53). Ownership goes with it: that no entry stands on a FREE line is part of it.
-/

namespace Sys2Proof.Machine

/-! ## The parts of the condition -/

/-- What one line rests at; `ready` says that step 3 of the start sequence is over. -/
structure LineRests (ready : Prop) (supply : SupplyState) (idle : Level) (r : Line) : Prop where
  /-- A FREE line is at its idle level (R35). -/
  free : ready → r.lease = none → r.level = idle
  /-- A FREE line has no pulse in flight (R41, R50). -/
  noPulse : r.lease = none → r.pulse = none
  /-- In a hold a HELD line is at its park level with no pulse in flight (R53). -/
  held : supply = .hold → ∀ lease, r.lease = some lease → r.level = lease.park ∧ r.pulse = none

/-- What holds before ports ready (R162, R178). -/
structure StartsBare (supply : SupplyState) (filter : Option Count) (sampled : Bool)
    (line : LineId → Line) : Prop where
  /-- No hold is in force. -/
  normal : supply = .normal
  /-- The hold filter has not begun. -/
  unfiltered : filter = none
  /-- No sample has been taken. -/
  unsampled : sampled = false
  /-- No line is HELD. -/
  unheld : ∀ l, (line l).lease = none

/-- Step 3 of the start sequence is over. -/
def Phase.LinesReady (p : Phase) : Prop := p = .beforeClockStart ∨ p = .running

/-- Lines at rest, by the parts. -/
def AllRest (s : State) : Prop :=
  (∀ l, LineRests s.phase.LinesReady s.supplyState (s.idleLevel l) (s.line l))
    ∧ (s.phase ≠ .running → StartsBare s.supplyState s.holdFilter s.sampled s.line)
    ∧ (s.phase = .heldInReset ∨ s.phase = .beforeOptionLoad → ∀ l, (s.line l).level = .float)

theorem linesRest_iff (s : State) : LinesRest s ↔ AllRest s := by
  constructor
  · rintro ⟨free, noPulse, held, starting, floating⟩
    refine ⟨fun l => ⟨fun ready => free ready l, noPulse l, fun hold => held hold l⟩, fun before => ?_, floating⟩
    obtain ⟨normal, unfiltered, unsampled, unheld⟩ := starting before
    exact ⟨normal, unfiltered, unsampled, unheld⟩
  · rintro ⟨lines, starting, floating⟩
    exact ⟨fun ready l => (lines l).free ready, fun l => (lines l).noPulse, fun hold l => (lines l).held hold,
      fun before => ⟨(starting before).normal, (starting before).unfiltered, (starting before).unsampled,
        (starting before).unheld⟩, floating⟩

/-! ## What becomes of the lines -/

/-- A line is HELD only once ports are ready (R178). -/
theorem AllRest.running_of_leased {s : State} (h : AllRest s) {l : LineId} {lease : Lease}
    (leased : (s.line l).lease = some lease) : s.phase = .running := by
  by_contra before
  rw [(h.2.1 before).unheld l] at leased
  cases leased

/-- One line of the running device changes. -/
theorem AllRest.setLine {s : State} (h : AllRest s) (running : s.phase = .running) {l : LineId} {r : Line}
    (rests : LineRests s.phase.LinesReady s.supplyState (s.idleLevel l) r) : AllRest (s.setLine l r) := by
  refine ⟨fun m => ?_, fun before => absurd running before, fun early => ?_⟩
  · rw [line_setLine]
    split
    next same => exact same ▸ rests
    next => exact h.1 m
  · change s.phase = _ ∨ s.phase = _ at early
    rw [running] at early
    simp at early

/-- The lease of a line ends (R39 to R41). -/
theorem LineRests.handedOn (ready : Prop) (supply : SupplyState) (idle : Level) (r : Line) :
    LineRests ready supply idle (r.handedOn supply idle) := by
  unfold Line.handedOn
  split
  · refine ⟨fun _ => by simp, by simp, fun hold lease leased => ?_⟩
    cases leased
    rw [hold]
    exact ⟨rfl, rfl⟩
  · exact ⟨fun _ _ => rfl, fun _ => rfl, fun _ lease leased => by cases leased⟩

/-- A line is parked at hold entry (R53). -/
theorem LineRests.parked {ready : Prop} {supply : SupplyState} {idle : Level} {r : Line}
    (h : LineRests ready supply idle r) : LineRests ready .hold idle r.parked := by
  unfold Line.parked
  cases leased : r.lease with
  | none => exact ⟨h.free, h.noPulse, fun _ _ leased' => absurd (leased.symm.trans leased') (by simp)⟩
  | some lease =>
    refine ⟨fun _ free => (by cases free), fun _ => rfl, fun _ lease' leased' => ?_⟩
    obtain rfl := Option.some.inj leased'
    exact ⟨rfl, rfl⟩

/-- No entry stands on a FREE line (R54). -/
theorem AllOwned.bare {s : State} (h : AllOwned s) {l : LineId} (free : (s.line l).lease = none) (k : SlotId)
    (e : Entry) (stands : s.slot k = some e) : e.body.line ≠ l := by
  rintro rfl
  obtain ⟨lease, leased, -⟩ := heldBy_iff.mp (h.1.entries k e stands)
  rw [free] at leased
  cases leased

/-- Lines whose leases stay stay at rest. -/
theorem AllRest.lines {s : State} (h : AllRest s) (owned : AllOwned s) (v : Vector Line 8)
    (change : ∀ l : LineId, LineMove s l (s.line l) v[l.val]) : AllRest { s with lines := v } := by
  have free : ∀ l : LineId, (v[l.val]).lease = none →
      (s.line l).lease = none ∧ (v[l.val]).level = (s.line l).level ∧ (v[l.val]).pulse = none := by
    intro l free
    have before := (change l).lease.symm.trans free
    exact ⟨before, (change l).free before ((h.1 l).noPulse before) (owned.bare before)⟩
  refine ⟨fun l => ⟨fun ready unheld => ?_, fun unheld => (free l unheld).2.2, fun hold lease leased => ?_⟩,
    fun before => ?_, fun early l => ?_⟩
  · obtain ⟨before, level, -⟩ := free l unheld
    exact level.trans ((h.1 l).free ready before)
  · have leased' := (change l).lease.symm.trans leased
    obtain ⟨level, pulse⟩ := (h.1 l).held hold lease leased'
    obtain ⟨level', pulse'⟩ := (change l).held hold lease leased' pulse
    exact ⟨level'.elim (·.trans level) id, pulse'⟩
  · obtain ⟨normal, unfiltered, unsampled, unheld⟩ := h.2.1 before
    exact ⟨normal, unfiltered, unsampled, fun l => (change l).lease.trans (unheld l)⟩
  · have starting : s.phase ≠ .running := by
      rcases early with held | before
      · rw [show s.phase = _ from held]; decide
      · rw [show s.phase = _ from before]; decide
    obtain ⟨-, level, -⟩ := free l ((change l).lease.trans ((h.2.1 starting).unheld l))
    exact level.trans (h.2.2 early l)

/-! ## The steps -/

/-- What is known in the running device only is so in any phase. -/
theorem AllRest.of_running {s : State} (running : s.phase = .running)
    (lines : ∀ l, LineRests s.phase.LinesReady s.supplyState (s.idleLevel l) (s.line l)) : AllRest s := by
  refine ⟨lines, fun before => absurd running before, fun early => ?_⟩
  rw [running] at early
  simp at early

theorem AllRest.move {s t : State} (h : Move s t) (owned : AllOwned s) (rest : AllRest s) : AllRest t := by
  cases h with
  | lines v change => exact rest.lines owned v change
  | acquire l c park running free =>
    refine rest.setLine running ⟨fun _ => by simp, by simp, fun hold lease leased => ?_⟩
    cases leased
    rw [hold]
    exact ⟨rfl, (rest.1 l).noPulse free⟩
  | enqueue l c park lease leased =>
    have old := rest.1 l
    exact rest.setLine (rest.running_of_leased leased) ⟨old.free, old.noPulse, old.held⟩
  | handOn l c held =>
    obtain ⟨lease, leased, -⟩ := heldBy_iff.mp held
    exact rest.setLine (rest.running_of_leased leased) (.handedOn ..)
  | enterHold normal confirmed =>
    have running : s.phase = .running := by
      by_contra before
      simp [State.holdFilterConfirmed, (rest.2.1 before).unfiltered] at confirmed
    refine .of_running running fun l => ?_
    rw [line_parkLines]
    exact (rest.1 l).parked
  | filter latched sampled =>
    refine ⟨rest.1, fun before => ?_, rest.2.2⟩
    rw [(rest.2.1 before).unsampled] at sampled
    cases sampled
  | _ => exact rest

theorem AllRest.shift {s t : State} (h : Shift s t) (rest : AllRest s) : AllRest t := by
  cases h with
  | leave =>
    refine ⟨fun l => ⟨(rest.1 l).free, (rest.1 l).noPulse, by rintro ⟨⟩⟩, fun before => ?_, rest.2.2⟩
    obtain ⟨-, -, unsampled, unheld⟩ := rest.2.1 before
    exact ⟨rfl, rfl, unsampled, unheld⟩
  | advance | retime | clock => exact rest

theorem AllRest.engine {s t : State} (h : EngineMove s t) (rest : AllRest s) : AllRest t := by
  cases h <;> exact rest

theorem AllRest.boot {s t : State} (h : Boot s t) (rest : AllRest s) : AllRest t := by
  cases h with
  | reset =>
    refine ⟨fun l => ?_, fun _ => ⟨rfl, rfl, rfl, fun l => by rw [line_reset]; rfl⟩,
      fun _ l => by rw [line_reset]; rfl⟩
    rw [line_reset]
    exact ⟨fun ready => by simp [Phase.LinesReady, State.reset] at ready, fun _ => rfl, by rintro ⟨⟩⟩
  | start held =>
    have starting : s.phase ≠ .running := by simp [held]
    refine ⟨fun l => ⟨fun ready => by simp [Phase.LinesReady] at ready, (rest.1 l).noPulse, (rest.1 l).held⟩,
      fun _ => rest.2.1 starting, fun _ => rest.2.2 (.inl held)⟩
  | optionLoad before =>
    have starting := rest.2.1 (by simp [before])
    refine ⟨fun l => ?_, fun _ => ⟨starting.normal, starting.unfiltered, starting.unsampled, fun l => ?_⟩,
      fun early => by simp [optionLoad] at early⟩
    · rw [line_optionLoad]
      refine ⟨fun _ _ => rfl, (rest.1 l).noPulse, fun hold => ?_⟩
      exact absurd (starting.normal.symm.trans hold) (by decide)
    · rw [line_optionLoad]
      exact starting.unheld l
  | clockStart k before =>
    exact .of_running rfl fun l =>
      ⟨fun _ => (rest.1 l).free (.inl before), (rest.1 l).noPulse, (rest.1 l).held⟩

/-- Settles O56: line by line, with ownership, which tells that no entry stands on a FREE line. -/
theorem everyStepKeepsTheLinesAtRest : Obligations.EveryStepKeepsTheLinesAtRest := by
  intro s t owned rest stepped
  rw [owned_iff] at owned
  rw [linesRest_iff] at rest ⊢
  exact (step_keeps_of_moves (P := fun u => AllOwned u ∧ AllRest u) (fun _ _ h => h)
    (fun _ _ move ⟨owned, rest⟩ => ⟨owned.move move, rest.move move owned⟩)
    (fun _ _ shift ⟨owned, rest⟩ => ⟨owned.shift shift, rest.shift shift⟩)
    (fun _ _ engine ⟨owned, rest⟩ => ⟨owned.engine engine, rest.engine engine⟩)
    (fun _ _ boot ⟨owned, rest⟩ => ⟨owned.boot boot, rest.boot boot⟩)
    (fun u running ⟨owned, rest⟩ => ⟨owned, .of_running (s := counted u) running rest.1⟩) stepped
    ⟨owned, rest⟩).2

end Sys2Proof.Machine
end

section
/-!
PROOF. Every step keeps a PENDING slot that of the request in the engine, that request within 25 ticks of its take,
and a chosen client's frame in its slot (R135, R136, R141).
-/

namespace Sys2Proof.Machine

/-! ## What is due is taken before the next tick -/

/-- What is so already, or comes from one element of a list, is so after the list. -/
theorem foldl_achieves {α β : Type} {P Q : β → Prop} (f : β → α → β) {x : α}
    (keepsP : ∀ b a, P b → P (f b a)) (keepsQ : ∀ b a, Q b → Q (f b a)) (achieves : ∀ b, P b → Q (f b x))
    (l : List α) (b : β) (start : Q b ∨ P b ∧ x ∈ l) : Q (l.foldl f b) := by
  induction l generalizing b with
  | nil => exact start.resolve_right fun ⟨_, mem⟩ => by cases mem
  | cons a l ih =>
    refine ih _ ?_
    rcases start with already | ⟨holds, mem⟩
    · exact .inl (keepsQ b a already)
    · rcases List.mem_cons.mp mem with rfl | later
      · exact .inl (achieves b holds)
      · exact .inr ⟨keepsP b a holds, later⟩

/-- What one due event brings about, and every event then keeps, is so when everything due has been taken. -/
theorem settle_achieves {P Q : State → Prop} (e : DueEvent) (keepsP : ∀ s t, Event s t → P s → P t)
    (keepsQ : ∀ s t, Event s t → Q s → Q t) (achieves : ∀ s, P s → Q (e.run s)) {s : State}
    (start : Q s ∨ P s ∧ e ∈ dueEvents s) : Q (settle s) := by
  have takes : ∀ u, Q u → Q (takeAll u) := fun u hu =>
    reflTransGen_keeps keepsQ
      ((((takeRequest_events u).trans (takeRequest_events _)).trans (takeRequest_events _)).trans
        (takeRequest_events _)) hu
  refine takes _ (foldl_achieves (P := P) (x := e) _
    (fun u x => reflTransGen_keeps keepsP (x.run_events u))
    (fun u x => reflTransGen_keeps keepsQ (x.run_events u)) achieves _ _ ?_)
  have free := (Move.useFree s (dueEvents s).length).events
  exact start.imp (reflTransGen_keeps keepsQ free) fun ⟨hs, due⟩ =>
    ⟨reflTransGen_keeps keepsP free hs, (freeOrder_perm _ _).mem_iff.mpr due⟩

/-! ## The PENDING slot -/

/-- A record's response slot that becomes PENDING was so before. -/
def KeepsPending (r r' : Client) : Prop := ∀ q k, r'.response = .pending q k → r.response = .pending q k

theorem RecordMove.keepsPending {run : Count} {r r' : Client} (h : RecordMove run r r') : KeepsPending r r' := by
  cases h <;> exact fun _ _ pending => pending

theorem deliver_keepsPending (i : InputId) (edge : EdgeKind) (record : CaptureRecord) (r : Client) :
    KeepsPending r (deliver i edge record r) := by
  unfold deliver
  split
  · split
    · exact fun _ _ pending => pending
    · exact fun _ _ pending => pending
  · exact fun _ _ pending => pending

theorem PendingIsHeld.of_records {s t : State} (h : PendingIsHeld s) (engine : t.engine = s.engine)
    (records : ∀ c, KeepsPending (s.client c) (t.client c)) : PendingIsHeld t :=
  fun c q k pending => engine.symm ▸ h c q k (records c q k pending)

theorem PendingIsHeld.setClient {s : State} (h : PendingIsHeld s) {c : ClientId} {r : Client}
    (keeps : KeepsPending (s.client c) r) : PendingIsHeld (s.setClient c r) :=
  h.of_records rfl (forall_client_setClient (Q := fun d r => KeepsPending (s.client d) r)
    (fun _ _ _ pending => pending) keeps)

theorem PendingIsHeld.move {s t : State} (h : Move s t) (held : PendingIsHeld s) : PendingIsHeld t := by
  cases h with
  | record c r change => exact held.setClient change.keepsPending
  | openSession c => exact held.setClient fun _ _ pending => pending
  | edge i latch =>
    exact held.of_records rfl fun c => client_acceptEdge i latch s c ▸ deliver_keepsPending _ _ _ _
  | clear c after =>
    refine held.of_records rfl (forall_client_setClient (Q := fun d r => KeepsPending (s.client d) r)
      (fun _ _ _ pending => pending) fun q k pending => ?_)
    cases pending
  | _ => exact held

theorem PendingIsHeld.shift {s t : State} (h : Shift s t) (held : PendingIsHeld s) : PendingIsHeld t := by
  cases h <;> exact held

theorem PendingIsHeld.engine {s t : State} (h : EngineMove s t) (held : PendingIsHeld s) : PendingIsHeld t := by
  cases h with
  | answer j outcome engine =>
    intro c q k pending
    obtain ⟨j', engine', rest⟩ := held c q k pending
    obtain rfl := Option.some.inj (engine.symm.trans engine')
    exact ⟨_, rfl, rest⟩
  | dequeue c =>
    exact held.of_records rfl (forall_client_setClient (Q := fun d r => KeepsPending (s.client d) r)
      (fun _ _ _ pending => pending) fun _ _ pending => pending)
  | choose free =>
    intro c q k pending
    obtain ⟨j, engine, -⟩ := held c q k pending
    cases free.symm.trans engine
  | hold c f _ free =>
    have none : ∀ d q k, (s.client d).response ≠ .pending q k := by
      intro d q k pending
      obtain ⟨j, engine, -⟩ := held d q k pending
      cases free.symm.trans engine
    intro d
    have own := client_modifyClient s c d fun r => { r with response := .pending f.sequence f.kind }
    intro q k pending
    replace pending := (congrArg Client.response own).symm.trans pending
    split at pending
    next same =>
      cases pending
      exact ⟨_, rfl, same, rfl, rfl⟩
    next => exact absurd pending (none d q k)
  | complete j response engine =>
    intro d
    have own := client_modifyClient s j.client d fun r =>
      { r with response := .done j.frame.sequence j.frame.kind response }
    intro q k pending
    replace pending := (congrArg Client.response own).symm.trans pending
    split at pending
    next => cases pending
    next other =>
      obtain ⟨j', engine', client, -⟩ := held d q k pending
      obtain rfl := Option.some.inj (engine.symm.trans engine')
      exact absurd client other

theorem PendingIsHeld.boot {s t : State} (h : Boot s t) (held : PendingIsHeld s) : PendingIsHeld t := by
  cases h with
  | reset =>
    intro c q k pending
    rw [client_reset] at pending
    cases pending
  | start | optionLoad | clockStart => exact held

/-! ## The chosen client -/

/-- The record of a client whose session has ended: what a teardown clears last (R121 steps 6 and 7). -/
def Client.ended (after : Session) (r : Client) : Client :=
  { r with session := after, lost := false, notices := [], captures := [], request := none, response := .empty }

theorem client_clearClient (c d : ClientId) (after : Session) (s : State) :
    (clearClient c after s).client d = if c = d then (s.client c).ended after else s.client d :=
  client_modifyClient s c d (Client.ended after)

/-- A chosen client, of a free engine, has a frame; and no request is held before ports ready (R135, R178). -/
def EngineInOrder (s : State) : Prop :=
  (∀ c, s.choice = some c → s.engine = none ∧ (s.client c).request.isSome = true)
    ∧ (s.phase ≠ .running → s.engine = none)

/-- A record's frame stays, or another takes its place. -/
def KeepsFrame (r r' : Client) : Prop := r.request.isSome = true → r'.request.isSome = true

theorem RecordMove.keepsFrame {run : Count} {r r' : Client} (h : RecordMove run r r') : KeepsFrame r r' := by
  cases h with
  | place => exact fun _ => rfl
  | _ => exact id

theorem deliver_keepsFrame (i : InputId) (edge : EdgeKind) (record : CaptureRecord) (r : Client) :
    KeepsFrame r (deliver i edge record r) := by
  unfold deliver
  split
  · split
    · exact id
    · exact id
  · exact id

theorem EngineInOrder.of_records {s t : State} (h : EngineInOrder s) (choice : t.choice = s.choice)
    (engine : t.engine = s.engine) (phase : t.phase = s.phase)
    (records : ∀ c, KeepsFrame (s.client c) (t.client c)) : EngineInOrder t := by
  refine ⟨fun c chosen => ?_, fun before => ?_⟩
  · obtain ⟨free, frame⟩ := h.1 c (choice.symm.trans chosen)
    exact ⟨engine.trans free, records c frame⟩
  · exact engine.trans (h.2 (phase ▸ before))

theorem EngineInOrder.setClient {s : State} (h : EngineInOrder s) {c : ClientId} {r : Client}
    (keeps : KeepsFrame (s.client c) r) : EngineInOrder (s.setClient c r) :=
  h.of_records rfl rfl rfl (forall_client_setClient (Q := fun d r => KeepsFrame (s.client d) r)
    (fun _ => id) keeps)

theorem EngineInOrder.move {s t : State} (h : Move s t) (order : EngineInOrder s) : EngineInOrder t := by
  cases h with
  | record c r change => exact order.setClient change.keepsFrame
  | openSession c => exact order.setClient id
  | edge i latch =>
    exact order.of_records rfl rfl rfl fun c => client_acceptEdge i latch s c ▸ deliver_keepsFrame _ _ _ _
  | clear c after =>
    refine ⟨fun d chosen => ?_, order.2⟩
    change (if s.choice = some c then none else s.choice) = some d at chosen
    split at chosen
    next => cases chosen
    next other =>
      obtain ⟨free, frame⟩ := order.1 d chosen
      have apart : c ≠ d := by
        rintro rfl
        exact other chosen
      rw [client_clearClient, if_neg apart]
      exact ⟨free, frame⟩
  | _ => exact order

theorem EngineInOrder.shift {s t : State} (h : Shift s t) (order : EngineInOrder s) : EngineInOrder t := by
  cases h <;> exact order

/-- A free engine has chosen a client that has a frame (R135). -/
theorem EngineInOrder.freeEngine (s : State) : EngineInOrder (freeEngine s) :=
  ⟨fun _ chosen => ⟨rfl, List.find?_some (p := fun c => (s.client c).request.isSome) chosen⟩, fun _ => rfl⟩

theorem EngineInOrder.engine {s t : State} (h : EngineMove s t) (order : EngineInOrder s) : EngineInOrder t := by
  cases h with
  | answer j outcome engine =>
    refine ⟨fun c chosen => ?_, fun before => ?_⟩
    · cases engine.symm.trans (order.1 c chosen).1
    · cases engine.symm.trans (order.2 before)
  | dequeue c => exact ⟨fun d chosen => (by cases chosen), order.2⟩
  | choose => exact .freeEngine s
  | hold c f running _ unchosen =>
    exact ⟨fun d chosen => (by cases unchosen.symm.trans chosen), fun before => absurd running before⟩
  | complete => exact .freeEngine _

theorem EngineInOrder.boot {s t : State} (h : Boot s t) (order : EngineInOrder s) : EngineInOrder t := by
  cases h with
  | reset => exact ⟨fun c chosen => (by cases chosen), fun _ => rfl⟩
  | start held => exact ⟨order.1, fun _ => order.2 (by simp [held])⟩
  | optionLoad before => exact ⟨order.1, fun _ => order.2 (by simp [before])⟩
  | clockStart => exact ⟨order.1, fun before => absurd rfl before⟩

/-! ## The 25 ticks -/

/-- The distance of a count above a latched value grows by one with each tick. -/
theorem distanceAhead_succ {run latched : Count} {n : Nat} (bound : distanceAhead run latched ≤ n)
    (small : n < 2 ^ 48 - 1) : distanceAhead (run + 1) latched ≤ n + 1 := by
  unfold distanceAhead at *
  bv_omega

theorem hasAdvanced_iff {run latched : Count} {n : Nat} :
    hasAdvanced run latched n = true ↔ n ≤ distanceAhead run latched := decide_eq_true_iff

/-- The request held is overdue from 25 ticks after its take (R136). -/
theorem requestOverdue_iff (s : State) :
    s.requestOverdue = true ↔ ∃ j, s.engine = some j ∧ 25 ≤ distanceAhead s.run j.takenAt := by
  simp only [State.requestOverdue, Option.any_eq_true, hasAdvanced_iff, Config.requestTicks]

/-- The request held was taken at most `n` ticks ago. -/
def TakenWithin (n : Nat) (s : State) : Prop := ∀ j, s.engine = some j → distanceAhead s.run j.takenAt ≤ n

theorem TakenWithin.event {n : Nat} {s t : State} (h : Event s t) (within : TakenWithin n s) :
    TakenWithin n t := by
  cases h with
  | effect h =>
    obtain ⟨run, -, -, engine⟩ := h.frame
    unfold TakenWithin
    rw [run, engine]
    exact within
  | engine h =>
    cases h with
    | answer j outcome held =>
      rintro j' ⟨⟩
      exact within j held
    | hold =>
      rintro j ⟨⟩
      simp [distanceAhead]
    | dequeue => exact within
    | choose | complete =>
      rintro j ⟨⟩

/-- A request that is not overdue was taken less than 25 ticks ago. -/
theorem TakenWithin.of_not_overdue {s : State} (young : ¬s.requestOverdue = true) : TakenWithin 24 s := by
  rw [requestOverdue_iff] at young
  exact fun j held => Nat.le_of_lt_succ (not_le.mp fun overdue => young ⟨j, held, overdue⟩)

/-- A tick adds one to the age of the request held. -/
theorem TakenWithin.counted {s : State} (within : TakenWithin 24 s) : TakenWithin 25 (counted s) :=
  fun j held => distanceAhead_succ (within j held) (by norm_num)

theorem EngineInOrder.counted {s : State} (order : EngineInOrder s) : EngineInOrder (counted s) := order

theorem completeRequest_engine_none {s : State} {j : EngineJob} {reply : Status × List Byte}
    (held : s.engine = some j) (executed : j.outcome = some reply) : (completeRequest s).engine = none := by
  unfold completeRequest
  rw [held]
  dsimp only
  rw [executed]
  rfl

/-- A request that has not been executed is, whatever its kind (R134, R138). -/
theorem executeHeld_engine {s : State} (running : s.phase = .running) {j : EngineJob}
    (held : s.engine = some j) (unexecuted : j.outcome = none) :
    ∃ reply, (executeHeld s).engine = some { j with outcome := some reply } := by
  unfold executeHeld
  rw [held]
  dsimp only
  rw [runRequest_executing _ _ ⟨held, unexecuted, rfl, rfl, running⟩ rfl]
  exact ⟨_, rfl⟩

/-- The completion at 25 ticks leaves a request that is younger, or none (R136). -/
theorem finishRequest_within {s : State} (running : s.phase = .running) : TakenWithin 24 (finishRequest s) := by
  unfold finishRequest
  split
  next overdue =>
    intro j held
    exfalso
    obtain ⟨j₀, held₀, -⟩ := (requestOverdue_iff s).mp overdue
    cases outcome : j₀.outcome with
    | none =>
      rw [if_pos (by simp [held₀, outcome])] at held
      obtain ⟨reply, executed⟩ := executeHeld_engine running held₀ outcome
      cases (completeRequest_engine_none executed rfl).symm.trans held
    | some reply =>
      rw [if_neg (by simp [held₀, outcome])] at held
      cases (completeRequest_engine_none held₀ outcome).symm.trans held
  next young =>
    exact .of_not_overdue young

/-- When everything due has been taken the request held is younger than 25 ticks (R136). -/
theorem settle_within {s : State} (running : s.phase = .running) : TakenWithin 24 (settle s) := by
  refine settle_achieves (P := fun u => u.phase = .running) .request
    (fun u v event running => event.frame.2.1.trans running) (fun u v => .event)
    (fun u => finishRequest_within) ?_
  by_cases overdue : s.requestOverdue = true
  · exact .inr ⟨running, by simp [dueEvents, overdue]⟩
  · exact .inl (.of_not_overdue overdue)

theorem engineInTime_iff (s : State) : EngineInTime s ↔ EngineInOrder s ∧ TakenWithin 25 s :=
  ⟨fun ⟨bound, starting, chosen⟩ => ⟨⟨chosen, starting⟩, bound⟩,
    fun ⟨⟨chosen, starting⟩, bound⟩ => ⟨bound, starting, chosen⟩⟩

theorem EngineInOrder.life {s t : State} (h : Life s t) (order : EngineInOrder s) : EngineInOrder t :=
  Life.keeps (fun _ _ => .move) (fun _ _ => .shift) (fun _ _ => .engine) (fun _ _ => .boot) s t h order

/-- A start step leaves the age of the request held as it is: none is held (R178). -/
theorem TakenWithin.boot {s t : State} (h : Boot s t) (order : EngineInOrder s) (within : TakenWithin 25 s) :
    TakenWithin 25 t := by
  cases h with
  | reset => rintro j ⟨⟩
  | clockStart k before =>
    intro j held
    cases (order.2 (by simp [before])).symm.trans held
  | start | optionLoad => exact within

/-- Settles O57: the PENDING slot by each move; the 25 ticks because an overdue request completes before the next
tick. -/
theorem everyStepKeepsTheEngineInOrder : Obligations.EveryStepKeepsTheEngineInOrder := by
  refine fun s t stepped => ⟨step_keeps_of_moves (fun _ _ h => h) (fun _ _ => .move) (fun _ _ => .shift)
    (fun _ _ => .engine) (fun _ _ => .boot) (fun _ _ h => h) stepped, ?_⟩
  rw [engineInTime_iff, engineInTime_iff]
  refine step_keeps (P := fun u => EngineInOrder u ∧ TakenWithin 25 u) (fun _ _ h => h) ?_ ?_ stepped
  · rintro u v life ⟨order, within⟩
    exact ⟨order.life life, life.elim (within.event) (within.boot · order)⟩
  · rintro u running - ⟨order, -⟩
    exact ⟨order.counted, (settle_within running).counted⟩

end Sys2Proof.Machine
end

section
/-!
PROOF. Every step keeps each OPEN client's deadline ahead of the run count by at most its period (R112, R115, R116).
-/

namespace Sys2Proof.Machine

/-! ## The deadlines -/

/-- A period in its range, and a deadline ahead by at most the period (R112, R115). -/
def Timely (run : Count) (r : Client) : Prop :=
  ∀ d, r.session = .opened d → 10 ≤ d.period ∧ d.period ≤ 60000
    ∧ distanceAhead d.deadline run ≤ d.period * 1000

/-- The deadlines of all clients, and none before ports ready (R178). -/
def AllTimely (s : State) : Prop :=
  (∀ c, Timely s.run (s.client c)) ∧ (s.phase ≠ .running → ∀ c, (s.client c).session = .closed)

theorem deadlinesAhead_iff (s : State) : DeadlinesAhead s ↔ AllTimely s :=
  ⟨fun ⟨period, ahead, starting⟩ =>
      ⟨fun c d opened => ⟨(period c d opened).1, (period c d opened).2, ahead c d opened⟩, starting⟩,
    fun ⟨timely, starting⟩ =>
      ⟨fun c d opened => ⟨(timely c d opened).1, (timely c d opened).2.1⟩,
        fun c d opened => (timely c d opened).2.2, starting⟩⟩

/-- A deadline that is given lies the whole period ahead (R114, R115). -/
theorem distanceAhead_deadlineFrom (run : Count) {period : Nat} (most : period ≤ 60000) :
    distanceAhead (deadlineFrom run period) run = period * 1000 := by
  rw [distanceAhead, deadlineFrom, Config.ticksPerMs, add_sub_cancel_left, BitVec.toNat_ofNat]
  omega

/-- A session with a whole period ahead. -/
theorem Timely.fresh {run : Count} {r : Client} {d : SessionData} (least : 10 ≤ d.period)
    (most : d.period ≤ 60000) (deadline : d.deadline = deadlineFrom run d.period) :
    Timely run { r with session := .opened d } := by
  rintro d' ⟨⟩
  exact ⟨least, most, by rw [deadline, distanceAhead_deadlineFrom run most]⟩

theorem RecordMove.timely {run : Count} {r r' : Client} (h : RecordMove run r r') (timely : Timely run r) :
    Timely run r' := by
  cases h with
  | renew d d' opened period deadline =>
    obtain ⟨least, most, ahead⟩ := timely d opened
    rcases deadline with same | renewed
    · rintro d'' ⟨⟩
      rw [same, period]
      exact ⟨least, most, ahead⟩
    · exact .fresh (period ▸ least) (period ▸ most) (period ▸ renewed)
  | _ => exact timely

theorem deliver_session (i : InputId) (edge : EdgeKind) (record : CaptureRecord) (r : Client) :
    (deliver i edge record r).session = r.session := by
  unfold deliver
  split
  · split
    · rfl
    · rfl
  · rfl

/-- A session is OPEN only once ports are ready (R178). -/
theorem AllTimely.running_of_open {s : State} (h : AllTimely s) {c : ClientId} {d : SessionData}
    (opened : (s.client c).session = .opened d) : s.phase = .running := by
  by_contra before
  cases (h.2 before c).symm.trans opened

/-- A record of the running device is replaced. -/
theorem AllTimely.setClient {s : State} (h : AllTimely s) {c : ClientId} {r : Client} (timely : Timely s.run r)
    (starting : s.phase = .running ∨ r.session = (s.client c).session) : AllTimely (s.setClient c r) := by
  refine ⟨forall_client_setClient (Q := fun _ r => Timely s.run r) h.1 timely, fun before => ?_⟩
  have closed := h.2 before
  exact forall_client_setClient (Q := fun _ r => r.session = .closed) closed
    ((starting.resolve_left before).trans (closed c))

theorem RecordMove.session {run : Count} {r r' : Client} (h : RecordMove run r r') :
    (∃ d, r.session = .opened d) ∨ r'.session = r.session := by
  cases h with
  | renew d _ opened => exact .inl ⟨d, opened⟩
  | _ => exact .inr rfl

/-- A client that is OPEN has a session. -/
theorem session_of_isOpen {r : Client} (opened : r.isOpen = true) : ∃ d, r.session = .opened d := by
  unfold Client.isOpen at opened
  cases session : r.session with
  | opened d => exact ⟨d, rfl⟩
  | closed => simp [session, Session.data?] at opened
  | lapsed => simp [session, Session.data?] at opened

theorem Timely.ended (run : Count) (r : Client) {after : Session} (ended : after = .closed ∨ after = .lapsed) :
    Timely run (r.ended after) := by
  rintro d opened
  change after = .opened d at opened
  rcases ended with rfl | rfl
  · cases opened
  · cases opened

theorem AllTimely.move {s t : State} (h : Move s t) (timely : AllTimely s) : AllTimely t := by
  cases h with
  | record c r change =>
    refine timely.setClient (change.timely (timely.1 c)) (change.session.imp ?_ id)
    exact fun ⟨d, opened⟩ => timely.running_of_open opened
  | openSession c period mask running least most =>
    exact timely.setClient (.fresh least most rfl) (.inl running)
  | edge i latch =>
    refine ⟨fun c => ?_, fun before c => ?_⟩
    · rw [client_acceptEdge, Timely, deliver_session]
      exact timely.1 c
    · rw [client_acceptEdge, deliver_session]
      exact timely.2 before c
  | clear c after ended ready =>
    obtain ⟨d, opened⟩ := session_of_isOpen ready.opened
    exact timely.setClient (r := (s.client c).ended after) (.ended _ _ ended) (.inl (timely.running_of_open opened))
  | _ => exact timely

theorem AllTimely.shift {s t : State} (h : Shift s t) (timely : AllTimely s) : AllTimely t := by
  cases h <;> exact timely

theorem AllTimely.engine {s t : State} (h : EngineMove s t) (timely : AllTimely s) : AllTimely t := by
  cases h with
  | dequeue c => exact timely.setClient (r := { s.client c with request := none }) (timely.1 c) (.inr rfl)
  | hold c f => exact timely.setClient (r := { s.client c with response := _ }) (timely.1 c) (.inr rfl)
  | complete j response =>
    exact timely.setClient (r := { s.client j.client with response := _ }) (timely.1 j.client) (.inr rfl)
  | answer | choose => exact timely

theorem AllTimely.boot {s t : State} (h : Boot s t) (timely : AllTimely s) : AllTimely t := by
  cases h with
  | reset =>
    refine ⟨fun c d opened => ?_, fun _ c => by rw [client_reset]; rfl⟩
    rw [client_reset] at opened
    cases opened
  | start held => exact ⟨timely.1, fun _ => timely.2 (by simp [held])⟩
  | optionLoad before => exact ⟨timely.1, fun _ => timely.2 (by simp [before])⟩
  | clockStart k before =>
    refine ⟨fun c d opened => ?_, fun starting => absurd rfl starting⟩
    cases (timely.2 (by simp [before]) c).symm.trans opened

/-! ## The expiries -/

/-- The deadline of a client is not the present run count. -/
def NotExpiring (c : ClientId) (s : State) : Prop :=
  ∀ d, (s.client c).session = .opened d → d.deadline ≠ s.run

/-- A deadline that is given is not the present run count (R112). -/
theorem deadlineFrom_ne (run : Count) {period : Nat} (least : 10 ≤ period) (most : period ≤ 60000) :
    deadlineFrom run period ≠ run := by
  intro same
  have ahead := distanceAhead_deadlineFrom run most
  rw [same, distanceAhead, BitVec.sub_self, BitVec.toNat_zero] at ahead
  omega

/-- Another client's record is replaced, or this client's by one that does not expire. -/
theorem NotExpiring.setClient {s : State} {c : ClientId} (h : NotExpiring c s) {e : ClientId} {r : Client}
    (own : e = c → ∀ d, r.session = .opened d → d.deadline ≠ s.run) : NotExpiring c (s.setClient e r) := by
  intro d opened
  rw [client_setClient] at opened
  split at opened
  next same => exact own same d opened
  next => exact h d opened

theorem NotExpiring.move {c : ClientId} {s t : State} (h : Move s t) (timely : AllTimely s)
    (later : NotExpiring c s) : NotExpiring c t := by
  cases h with
  | record e r change =>
    refine later.setClient ?_
    rintro rfl d opened
    cases change with
    | renew d₀ d' before period deadline =>
      cases opened
      rcases deadline with same | renewed
      · exact same ▸ later d₀ before
      · obtain ⟨least, most, -⟩ := timely.1 e d₀ before
        exact renewed ▸ deadlineFrom_ne _ least most
    | _ => exact later d opened
  | openSession e period mask _ least most =>
    refine later.setClient ?_
    rintro - d ⟨⟩
    exact deadlineFrom_ne _ least most
  | edge i latch =>
    intro d opened
    rw [client_acceptEdge, deliver_session] at opened
    exact later d opened
  | clear e after ended =>
    refine later.setClient (r := (s.client e).ended after) ?_
    rintro - d opened
    change after = .opened d at opened
    rcases ended with rfl | rfl
    · cases opened
    · cases opened
  | _ => exact later

theorem NotExpiring.engine {c : ClientId} {s t : State} (h : EngineMove s t) (later : NotExpiring c s) :
    NotExpiring c t := by
  cases h with
  | dequeue e =>
    exact later.setClient (r := { s.client e with request := none }) (by rintro rfl; exact later)
  | hold e f =>
    exact later.setClient (r := { s.client e with response := _ }) (by rintro rfl; exact later)
  | complete j response =>
    exact later.setClient (r := { s.client j.client with response := _ }) (by rintro rfl; exact later)
  | answer | choose => exact later

/-- An event keeps the deadlines ahead. -/
theorem AllTimely.event {s t : State} (h : Event s t) (timely : AllTimely s) : AllTimely t :=
  Life.keeps (fun _ _ => .move) (fun _ _ => .shift) (fun _ _ => .engine) (fun _ _ => .boot) s t (.inl h) timely

/-- An event lets no deadline come to the present run count. -/
theorem NotExpiring.event {c : ClientId} {s t : State} (h : Event s t) (timely : AllTimely s)
    (later : NotExpiring c s) : AllTimely t ∧ NotExpiring c t := by
  cases h with
  | effect h =>
    exact h.keeps (P := fun u => AllTimely u ∧ NotExpiring c u)
      (fun _ _ move ⟨timely, later⟩ => ⟨timely.move move, later.move move timely⟩)
      (fun _ _ shift ⟨timely, later⟩ => ⟨timely.shift shift, by cases shift <;> exact later⟩) ⟨timely, later⟩
  | engine h => exact ⟨timely.engine h, later.engine h⟩

/-- A teardown ends the client's session (R121). -/
theorem session_teardown (c : ClientId) (after : Session) (s : State) :
    ((teardown c after s).client c).session = after := by
  rw [teardown_eq, client_clearClient, if_pos rfl]
  rfl

/-- After the expiry of a client's keepalive it has no deadline at the run count (R116). -/
theorem expireKeepalive_notExpiring (c : ClientId) (s : State) : NotExpiring c (expireKeepalive c s) := by
  unfold expireKeepalive
  split
  next d opened =>
    split
    next =>
      intro d' opened'
      rw [session_teardown] at opened'
      cases opened'
    next later =>
      intro d' opened'
      obtain rfl := Session.opened.inj (opened.symm.trans opened')
      exact later
  next closed =>
    intro d opened
    cases closed.symm.trans opened
  next lapsed =>
    intro d opened
    cases lapsed.symm.trans opened

/-- When everything due has been taken no deadline is at the run count (R116). -/
theorem settle_notExpiring (c : ClientId) {s : State} (timely : AllTimely s) : NotExpiring c (settle s) := by
  refine (settle_achieves (P := AllTimely) (Q := fun u => AllTimely u ∧ NotExpiring c u) (.keepaliveExpiry c)
    (fun _ _ => .event) (fun _ _ event ⟨timely, later⟩ => later.event event timely) ?_ ?_).2
  · exact fun u timely => ⟨reflTransGen_keeps (fun _ _ => AllTimely.event)
      (DueEvent.run_events (.keepaliveExpiry c) u) timely, expireKeepalive_notExpiring c u⟩
  · by_cases due : s.keepaliveDue c = true
    · exact .inr ⟨timely, by simp [dueEvents, due, allClients]⟩
    · refine .inl ⟨timely, fun d opened same => due ?_⟩
      simp [State.keepaliveDue, opened, Session.data?, same]

/-- A tick brings each deadline nearer by one (R3). -/
theorem AllTimely.counted {s : State} (timely : AllTimely s) (later : ∀ c, NotExpiring c s) :
    AllTimely (counted s) := by
  refine ⟨fun c d opened => ?_, timely.2⟩
  obtain ⟨least, most, ahead⟩ := timely.1 c d opened
  refine ⟨least, most, ?_⟩
  have apart := later c d opened
  change distanceAhead d.deadline (s.run + 1) ≤ _
  generalize s.run = run at *
  unfold distanceAhead at *
  bv_omega

/-- Settles O58: a deadline at the run count expires before the next tick, and one that is given lies ahead. -/
theorem everyStepKeepsDeadlinesAhead : Obligations.EveryStepKeepsDeadlinesAhead := by
  intro s t timely stepped
  rw [deadlinesAhead_iff] at timely ⊢
  have kept : StepKept fun _ => AllTimely :=
    ⟨fun _ _ _ h => h,
      fun _ u v life => Life.keeps (fun _ _ => .move) (fun _ _ => .shift) (fun _ _ => .engine)
        (fun _ _ => .boot) u v life,
      fun _ u _ timely => AllTimely.counted
        (reflTransGen_keeps (fun _ _ => AllTimely.event) (settle_events u) timely)
        fun c => settle_notExpiring c timely⟩
  exact (kept.step stepped timely).elim id id

end Sys2Proof.Machine
end

section
/-!
PROOF. What the calendar's own events make of each slot: what an occurrence, a late resolution, a step of the timebase
count, the end of a hold and a failover leave of an entry (R69 to R76, R81, R87).
-/

namespace Sys2Proof.Machine

/-! ## What becomes of one entry -/

/-- An entry after `n` of its occurrences, or none when it is exhausted (R71, R87). -/
def Entry.advanced (e : Entry) (n : Nat) : Option Entry :=
  (consume e.body n).1.map fun b => { e with body := b }

/-- An entry after its late resolution: as it was, where it is not behind the count (R71 to R74). -/
def Entry.afterLate (count : Count) (e : Entry) : Option Entry :=
  if isBehind e.body.due count then
    match e.body.late with
    | .fireLate => e.advanced (missedOccurrences e.body count)
    | .skip => e.advanced (missedOccurrences e.body count)
    | .withdraw => none
  else some e

/-- An entry after its occurrence: as it was, where none is due (R81, R87). -/
def Entry.afterDue (supply : SupplyState) (count : Count) (e : Entry) : Option Entry :=
  if supply = .normal ∧ e.body.due = count then e.advanced 1 else some e

/-- An entry that has been brought forward is as it was but for its due and its repeat count. -/
theorem Entry.advanced_some {e e' : Entry} {n : Nat} (left : e.advanced n = some e') :
    ∃ r count, e.body.rep = some r
      ∧ e' = { e with body := { e.body with
                due := e.body.due + BitVec.ofNat 48 (n * r.period.toNat),
                rep := some { r with count := count } } }
      ∧ (r.count = .unlimited ∧ count = .unlimited
        ∨ ∃ m, r.count = .times m ∧ n < m ∧ count = .times (m - n)) := by
  obtain ⟨b, consumed, rfl⟩ := Option.map_eq_some_iff.mp left
  obtain ⟨r, count, rep, rfl, counts⟩ := consume_some consumed
  exact ⟨r, count, rep, rfl, counts⟩

/-- An entry is as it was but for its due and its repeat. -/
def SameBooking (e e' : Entry) : Prop :=
  e' = { e with body := { e.body with due := e'.body.due, rep := e'.body.rep } }

theorem SameBooking.refl (e : Entry) : SameBooking e e := rfl

theorem SameBooking.trans {e f g : Entry} (h : SameBooking e f) (k : SameBooking f g) : SameBooking e g := by
  unfold SameBooking at *
  rw [k, h]

theorem SameBooking.strict {e f : Entry} (h : SameBooking e f) : f.body.strict = e.body.strict := by
  rw [h]

theorem SameBooking.owner {e f : Entry} (h : SameBooking e f) : f.owner = e.owner := by
  rw [h]

theorem Entry.advanced_same {e e' : Entry} {n : Nat} (left : e.advanced n = some e') : SameBooking e e' := by
  obtain ⟨r, count, -, rfl, -⟩ := Entry.advanced_some left
  rfl

theorem Entry.afterLate_same {count : Count} {e e' : Entry} (left : e.afterLate count = some e') :
    SameBooking e e' := by
  unfold Entry.afterLate at left
  split at left
  · split at left
    · exact Entry.advanced_same left
    · exact Entry.advanced_same left
    · cases left
  · cases left
    exact .refl e

theorem Entry.afterDue_same {supply : SupplyState} {count : Count} {e e' : Entry}
    (left : e.afterDue supply count = some e') : SameBooking e e' := by
  unfold Entry.afterDue at left
  split at left
  · exact Entry.advanced_same left
  · cases left
    exact .refl e

/-! ## Each event, slot by slot -/

theorem OnlyNotices.slot {s t : State} (h : OnlyNotices s t) (k : SlotId) : t.slot k = s.slot k := by
  obtain ⟨vs, rfl, -⟩ := h
  rfl

theorem slot_advanceEntry (k m : SlotId) (e : Entry) (n : Nat) (outcome : FireOutcome) (s : State) :
    (advanceEntry k e n outcome s).slot m = if k = m then e.advanced n else s.slot m :=
  ((postFired_onlyNotices ..).slot m).trans (slot_setSlot ..)

theorem isDue_iff (e : Entry) (s : State) :
    isDue e s = true ↔ s.supplyState = .normal ∧ e.body.due = s.timebase := by
  simp [isDue]

/-- An occurrence touches its own slot only (R81). -/
theorem slot_takeOccurrence (k m : SlotId) (s : State) :
    (takeOccurrence k s).slot m
      = if k = m then (s.slot m).bind (Entry.afterDue s.supplyState s.timebase) else s.slot m := by
  unfold takeOccurrence
  split
  next e held =>
    split
    next due =>
      rw [slot_advanceEntry, applyEntry_slot]
      split
      next same =>
        subst same
        rw [held, Option.bind_some, Entry.afterDue, if_pos ((isDue_iff e s).mp due)]
      next => rfl
    next early =>
      split
      next same =>
        subst same
        rw [held, Option.bind_some, Entry.afterDue, if_neg fun due => early ((isDue_iff e s).mpr due)]
      next => rfl
  next empty =>
    split
    next same =>
      subst same
      rw [empty]
      rfl
    next => rfl

/-- The resolution of a late entry touches its own slot only (R69). -/
theorem slot_resolveEntry (k m : SlotId) (s : State) :
    (resolveEntry k s).slot m
      = if k = m then (s.slot m).bind (Entry.afterLate s.timebase) else s.slot m := by
  unfold resolveEntry
  split
  next empty =>
    split
    next same =>
      subst same
      rw [empty]
      rfl
    next => rfl
  next e held =>
    split
    next behind =>
      have resolved : ∀ after : Option Entry, e.afterLate s.timebase = after →
          (if k = m then after else s.slot m)
            = if k = m then (s.slot m).bind (Entry.afterLate s.timebase) else s.slot m := by
        rintro after rfl
        split
        next same =>
          subst same
          rw [held]
          rfl
        next => rfl
      split
      next late =>
        rw [slot_advanceEntry, applyEntry_slot]
        exact resolved _ (by rw [Entry.afterLate, if_pos behind, late])
      next late =>
        rw [slot_advanceEntry]
        exact resolved _ (by rw [Entry.afterLate, if_pos behind, late])
      next late =>
        rw [(postWithdrawn_onlyNotices ..).slot, slot_setSlot]
        exact resolved _ (by rw [Entry.afterLate, if_pos behind, late])
    next ahead =>
      split
      next same =>
        subst same
        rw [held, Option.bind_some, Entry.afterLate, if_neg ahead]
      next => rfl

/-! ## Sequences of them -/

/-- Events that each touch a slot of their own, in sequence. -/
theorem slot_foldl {α : Type} {f : State → α → State} {key : α → SlotId} {g : Option Entry → Option Entry}
    {P : State → Prop} (kept : ∀ u a, P u → P (f u a))
    (slot : ∀ u a m, P u → (f u a).slot m = if key a = m then g (u.slot m) else u.slot m) (as : List α)
    (distinct : (as.map key).Nodup) {s : State} (hs : P s) (m : SlotId) :
    (as.foldl f s).slot m = if m ∈ as.map key then g (s.slot m) else s.slot m := by
  induction as generalizing s with
  | nil => simp
  | cons a as ih =>
    obtain ⟨outside, distinct⟩ := List.nodup_cons.mp distinct
    rw [List.foldl_cons, ih distinct (kept s a hs), slot s a m hs, List.map_cons]
    by_cases same : key a = m
    · subst same
      simp [outside]
    · have other : m ≠ key a := fun h => same h.symm
      simp [same, other]

/-- The entries that a test picks, from any order of them: their slots. -/
theorem mem_pickedSlots {s : State} {es : List (SlotId × Entry)} (order : es.Perm s.entries)
    (pick : Entry → Bool) (k : SlotId) :
    k ∈ (es.filter fun p => pick p.2).map Prod.fst ↔ ∃ e, s.slot k = some e ∧ pick e = true := by
  simp only [List.mem_map, List.mem_filter, order.mem_iff, mem_entries, Prod.exists, exists_and_right,
    exists_eq_right]

theorem pickedSlots_nodup {s : State} {es : List (SlotId × Entry)} (order : es.Perm s.entries)
    (pick : Entry → Bool) : ((es.filter fun p => pick p.2).map Prod.fst).Nodup :=
  (List.filter_sublist.map _).nodup ((order.map _).nodup_iff.mpr (entries_nodup s))

/-- A change of the picked entries alone is a change of all, where it leaves the others as they are. -/
theorem bind_of_picked {s : State} {ks : List SlotId} {pick : Entry → Bool} {g : Entry → Option Entry}
    (picked : ∀ k, k ∈ ks ↔ ∃ e, s.slot k = some e ∧ pick e = true)
    (others : ∀ e, pick e = false → g e = some e) (k : SlotId) :
    (if k ∈ ks then (s.slot k).bind g else s.slot k) = (s.slot k).bind g := by
  split
  next => rfl
  next outside =>
    cases held : s.slot k with
    | none => rfl
    | some e =>
      have unpicked : pick e = false := by
        by_contra picks
        exact outside ((picked k).mpr ⟨e, held, by simpa using picks⟩)
      exact (others e unpicked).symm

/-- The calendar's own events leave the timebase count as it is. -/
theorem CalendarMoved.timebase {s t : State} (h : CalendarMoved s t) : t.timebase = s.timebase :=
  h.same State.timebase fun _ _ _ _ _ => rfl

/-- The entries at distance 0 have their occurrences (R70). -/
theorem slot_takeDueOccurrences (s : State) (k : SlotId) :
    (takeDueOccurrences s).slot k = (s.slot k).bind (Entry.afterDue s.supplyState s.timebase) := by
  have picked := mem_pickedSlots (.refl s.entries) (fun e => isDue e s)
  unfold takeDueOccurrences
  dsimp only
  rw [slot_foldl (s := s.useFree _) (key := id)
    (P := fun u => u.supplyState = s.supplyState ∧ u.timebase = s.timebase)
    (g := fun o => o.bind (Entry.afterDue s.supplyState s.timebase)) (fun u k ⟨supply, count⟩ =>
      ⟨(takeOccurrence_moved k u).supplyState.trans supply, (takeOccurrence_moved k u).timebase.trans count⟩)
    (fun u k m ⟨supply, count⟩ => by rw [slot_takeOccurrence, supply, count]; rfl) _ ?_ ⟨rfl, rfl⟩]
  · rw [List.map_id]
    refine bind_of_picked (pick := fun e => isDue e s) (fun k => ?_) (fun e early => ?_) k
    · rw [(freeOrder_perm _ _).mem_iff]
      exact picked k
    · rw [Entry.afterDue, if_neg]
      intro due
      rw [(isDue_iff e s).mpr due] at early
      cases early
  · rw [List.map_id]
    exact (freeOrder_perm _ _).nodup_iff.mpr (pickedSlots_nodup (.refl s.entries) fun e => isDue e s)

/-- The slots of the late entries, in due order (R59, R69). -/
def State.lateSlots (s : State) : List SlotId :=
  (s.dueOrder.filter fun p => isBehind p.2.body.due s.timebase).map Prod.fst

theorem dueOrder_perm (s : State) : s.dueOrder.Perm s.entries := sortByDue_perm ..

theorem mem_lateSlots (s : State) (k : SlotId) :
    k ∈ s.lateSlots ↔ ∃ e, s.slot k = some e ∧ isBehind e.body.due s.timebase = true :=
  mem_pickedSlots (dueOrder_perm s) (fun e => isBehind e.body.due s.timebase) k

theorem lateSlots_nodup (s : State) : s.lateSlots.Nodup :=
  pickedSlots_nodup (dueOrder_perm s) fun e => isBehind e.body.due s.timebase

/-- The late entries resolved, before the occurrences at distance 0 (R69). -/
def lateResolved (s : State) : State := s.lateSlots.foldl (fun u k => resolveEntry k u) s

theorem resolveLate_eq (s : State) : resolveLate s = takeDueOccurrences (lateResolved s) := rfl

theorem lateResolved_moved (s : State) : CalendarMoved s (lateResolved s) :=
  foldl_keeps (CalendarMoved s) _ _ _ (fun u k _ hu => hu.trans (resolveEntry_moved k u)) (.refl s)

theorem slot_lateResolved (s : State) (k : SlotId) :
    (lateResolved s).slot k = (s.slot k).bind (Entry.afterLate s.timebase) := by
  unfold lateResolved
  rw [slot_foldl (key := id) (P := fun u => u.timebase = s.timebase)
    (g := fun o => o.bind (Entry.afterLate s.timebase))
    (fun u k count => (resolveEntry_moved k u).timebase.trans count)
    (fun u k m count => by rw [slot_resolveEntry, count]; rfl) _ ?_ rfl, List.map_id]
  · refine bind_of_picked (pick := fun e => isBehind e.body.due s.timebase) (mem_lateSlots s) (fun e ahead => ?_) k
    rw [Entry.afterLate, if_neg (by simp [ahead])]
  · rw [List.map_id]
    exact lateSlots_nodup s

/-- A late resolution resolves the late entries, then takes the occurrences at distance 0 (R69, R70). -/
theorem slot_resolveLate (s : State) (k : SlotId) :
    (resolveLate s).slot k
      = ((s.slot k).bind (Entry.afterLate s.timebase)).bind (Entry.afterDue s.supplyState s.timebase) := by
  have moved := lateResolved_moved s
  rw [resolveLate_eq, slot_takeDueOccurrences, slot_lateResolved, moved.supplyState, moved.timebase]

/-- A step of the timebase count makes a late resolution where it goes forward outside a hold (R26). -/
theorem slot_timeStep (new : Count) (s : State) (k : SlotId) :
    (timeStep new s).slot k
      = if (stepOf s.timebase new).1 = .forward ∧ s.supplyState = .normal then
          ((s.slot k).bind (Entry.afterLate new)).bind (Entry.afterDue .normal new)
        else s.slot k := by
  have posted := postAll_onlyNotices .shifted
    (.shifted (stepOf s.timebase new).1 (shiftedMagnitude (stepOf s.timebase new).2))
    { s with timebase := new, timeState := .set }
  have moved := CalendarMoved.of_onlyNotices posted
  have supply : (postAll .shifted
    (.shifted (stepOf s.timebase new).1 (shiftedMagnitude (stepOf s.timebase new).2))
    { s with timebase := new, timeState := .set }).supplyState = s.supplyState := moved.supplyState
  unfold timeStep
  dsimp only
  rw [supply]
  split
  next forward => rw [slot_resolveLate, moved.supplyState, moved.timebase, posted.slot, forward.2]; rfl
  next => exact posted.slot k

/-- The end of a hold makes a late resolution (R164). -/
theorem slot_leaveHold (s : State) (k : SlotId) :
    (leaveHold s).slot k
      = ((s.slot k).bind (Entry.afterLate s.timebase)).bind (Entry.afterDue .normal s.timebase) := by
  have posted := postAll_onlyNotices .supply (.supply .holdLeft) { s with supplyState := .normal, holdFilter := none }
  have moved := CalendarMoved.of_onlyNotices posted
  unfold leaveHold
  rw [slot_resolveLate, moved.supplyState, moved.timebase, posted.slot]
  rfl

/-- A failover withdraws the strict entries (R76). -/
theorem slot_withdrawStrict (s : State) (k : SlotId) :
    (withdrawStrict s).slot k = (s.slot k).filter fun e => !e.body.strict := by
  unfold withdrawStrict
  rw [slot_foldl (key := Prod.fst) (P := fun _ => True) (g := fun _ => none) (fun _ _ _ => trivial)
    (fun u p m _ => ((postWithdrawn_onlyNotices ..).slot m).trans (slot_setSlot ..)) _
    (pickedSlots_nodup (dueOrder_perm s) fun e => e.body.strict) trivial]
  have picked := mem_pickedSlots (dueOrder_perm s) (fun e => e.body.strict) k
  cases held : s.slot k with
  | none => simp
  | some e =>
    rw [held] at picked
    cases strict : e.body.strict
    · rw [if_neg (by rw [picked]; rintro ⟨f, ⟨⟩, picks⟩; rw [strict] at picks; cases picks)]
      simp only [Option.filter, strict, Bool.not_false, if_true]
    · rw [if_pos (picked.mpr ⟨e, rfl, strict⟩)]
      simp only [Option.filter, strict, Bool.not_true, Bool.false_eq_true, if_false]

theorem slot_failover {s : State} (due : s.failoverDue = true) (k : SlotId) :
    (failover s).slot k = (s.slot k).filter fun e => !e.body.strict := by
  unfold failover
  rw [if_pos due, slot_withdrawStrict, (postAll_onlyNotices ..).slot]
  rfl

end Sys2Proof.Machine
end

section
/-!
PROOF. Every step keeps strict entries out of the calendar under DEGRADED quality (R76), each client's entry count
within its share (R58), and the record of a store's target not good (R173, R174).
-/

namespace Sys2Proof.Machine

/-! ## Counting the entries -/

/-- A count over the slots is the number of the slots counted. -/
theorem countP_slots (s : State) (p : Option Entry → Bool) :
    s.slots.toList.countP p = (Finset.univ.filter fun k => p (s.slot k) = true).card := by
  have slots : s.slots.toList = (List.finRange 64).map s.slot := by
    refine List.ext_getElem (by simp) fun i h h' => ?_
    simp [State.slot]
  rw [slots, List.countP_map, List.countP_eq_length_filter, Finset.card_def, Finset.filter_val, Fin.univ_def,
    Multiset.filter_coe, Multiset.coe_card]
  exact congrArg List.length (List.filter_congr fun k _ => by simp)

/-- A client's entry count is the number of slots with an entry of its own (R54). -/
theorem entryCount_eq (s : State) (c : ClientId) :
    s.entryCount c = (Finset.univ.filter fun k => (s.slot k).any (fun e => e.owner == c) = true).card :=
  countP_slots s _

/-- No entries are counted where fewer slots hold one of the client's. -/
theorem entryCount_le {s t : State} {c : ClientId}
    (fewer : ∀ k, (t.slot k).any (fun e => e.owner == c) = true → (s.slot k).any (fun e => e.owner == c) = true) :
    t.entryCount c ≤ s.entryCount c := by
  rw [entryCount_eq, entryCount_eq]
  exact Finset.card_le_card fun k => by simpa using fewer k

/-- One more slot adds at most one to a count. -/
theorem entryCount_le_succ {s t : State} {c : ClientId} (k : SlotId)
    (others : ∀ m, m ≠ k → t.slot m = s.slot m) : t.entryCount c ≤ s.entryCount c + 1 := by
  rw [entryCount_eq, entryCount_eq]
  refine (Finset.card_le_card (t := insert k (Finset.univ.filter fun m =>
    (s.slot m).any (fun e => e.owner == c) = true)) fun m mem => ?_).trans (Finset.card_insert_le ..)
  by_cases same : m = k
  · exact Finset.mem_insert.mpr (.inl same)
  · rw [Finset.mem_filter, others m same] at mem
    exact Finset.mem_insert_of_mem (Finset.mem_filter.mpr mem)

theorem entryCount_eq_zero {s : State} (empty : ∀ k, s.slot k = none) (c : ClientId) : s.entryCount c = 0 := by
  rw [entryCount_eq, Finset.card_eq_zero, Finset.filter_eq_empty_iff]
  intro k _
  simp [empty k]

/-! ## What a booking has passed -/

/-- A booking whose checks have passed fits the booker's share, and is not strict under DEGRADED quality (R60). -/
theorem bookingStatus_none_share {c : ClientId} {b : Booking} {s : State} (passed : bookingStatus c b s = none) :
    s.entryCount c < s.share c ∧ (s.quality = .degraded → b.strict = false) := by
  unfold bookingStatus at passed
  repeat' split at passed
  all_goals try cases passed
  next strict _ _ _ full =>
    simp only [Bool.or_eq_true, decide_eq_true_eq, not_or, not_le] at full
    refine ⟨full.1, fun degraded => ?_⟩
    simpa [degraded] using strict

/-! ## The shares -/

/-- The shares hold, and the calendar is empty before ports ready. -/
def SharesHeld (s : State) : Prop :=
  (∀ c, s.entryCount c ≤ s.share c) ∧ (s.phase ≠ .running → ∀ k, s.slot k = none)

theorem SharesHeld.move {s t : State} (h : Move s t) (held : SharesHeld s) : SharesHeld t := by
  cases h with
  | remove v change =>
    refine ⟨fun c => (entryCount_le fun k own => ?_).trans (held.1 c), fun before k => ?_⟩
    · rcases change k with gone | same
      · rw [show State.slot { s with slots := v } k = none from gone] at own
        cases own
      · rwa [show State.slot { s with slots := v } k = s.slot k from same] at own
    · exact (change k).elim id (·.trans (held.2 before k))
  | book c b k running _ _ passed =>
    refine ⟨fun d => ?_, fun before => absurd running before⟩
    by_cases same : d = c
    · subst same
      refine (entryCount_le_succ k fun m other => ?_).trans (bookingStatus_none_share passed).1
      rw [slot_insertAtSlot, if_neg fun h => other h.symm]
    · refine (entryCount_le fun m own => ?_).trans (held.1 d)
      rw [slot_insertAtSlot] at own
      split at own
      · exact absurd (by simpa using own) fun owner : c = d => same owner.symm
      · exact own
  | _ => exact held

theorem SharesHeld.shift {s t : State} (h : Shift s t) (held : SharesHeld s) : SharesHeld t := by
  cases h with
  | advance k e n b stands =>
    refine ⟨fun c => (entryCount_le fun m own => ?_).trans (held.1 c), fun before => ?_⟩
    · rw [slot_setSlot] at own
      split at own
      next same =>
        subst same
        rw [stands]
        exact own
      next => exact own
    · cases (held.2 before k).symm.trans stands
  | retime | leave | clock => exact held

theorem SharesHeld.engine {s t : State} (h : EngineMove s t) (held : SharesHeld s) : SharesHeld t := by
  cases h <;> exact held

/-- An empty calendar is within all shares. -/
theorem SharesHeld.of_empty {s : State} (empty : ∀ k, s.slot k = none) : SharesHeld s :=
  ⟨fun c => (entryCount_eq_zero empty c).trans_le (Nat.zero_le _), fun _ => empty⟩

theorem SharesHeld.boot {s t : State} (h : Boot s t) (held : SharesHeld s) : SharesHeld t := by
  cases h with
  | reset => exact .of_empty (slot_reset s.pending)
  | start before => exact .of_empty (s := { s with phase := _ }) (held.2 (by simp [before]))
  | optionLoad before => exact .of_empty (s := optionLoad s) (held.2 (by simp [before]))
  | clockStart k before =>
    exact .of_empty (s := { s with clock := some k, timebase := 0, run := 0, phase := .running })
      (held.2 (by simp [before]))

/-! ## The store -/

/-- The record of a store's target is not good, and no store is in progress before ports ready. -/
def TargetHeld (s : State) : Prop :=
  (∀ job, s.store = some job →
      (job.target = .a → s.recordA.good = false) ∧ (job.target = .b → s.recordB.good = false))
    ∧ (s.phase ≠ .running → s.store = none)

theorem TargetHeld.move {s t : State} (h : Move s t) (held : TargetHeld s) : TargetHeld t := by
  cases h with
  | store job recordA recordB running targetA targetB =>
    refine ⟨?_, fun before => absurd running before⟩
    rintro job' ⟨⟩
    exact ⟨targetA, targetB⟩
  | endStore => exact ⟨by rintro job ⟨⟩, fun _ => rfl⟩
  | _ => exact held

theorem TargetHeld.shift {s t : State} (h : Shift s t) (held : TargetHeld s) : TargetHeld t := by
  cases h <;> exact held

theorem TargetHeld.engine {s t : State} (h : EngineMove s t) (held : TargetHeld s) : TargetHeld t := by
  cases h <;> exact held

/-- With no store in progress no record is bound. -/
theorem TargetHeld.of_none {s : State} (none : s.store = none) : TargetHeld s := by
  refine ⟨fun job some => ?_, fun _ => none⟩
  cases none.symm.trans some

theorem TargetHeld.boot {s t : State} (h : Boot s t) (held : TargetHeld s) : TargetHeld t := by
  cases h with
  | reset => exact .of_none rfl
  | start before => exact .of_none (s := { s with phase := _ }) (held.2 (by simp [before]))
  | optionLoad before => exact .of_none (s := optionLoad s) (held.2 (by simp [before]))
  | clockStart k before =>
    exact .of_none (s := { s with clock := some k, timebase := 0, run := 0, phase := .running })
      (held.2 (by simp [before]))

/-! ## Strict entries -/

/-- No strict entry stands under DEGRADED quality, and none at all before ports ready. -/
def StrictHeld (s : State) : Prop :=
  (s.quality = .degraded → ∀ k e, s.slot k = some e → e.body.strict = false)
    ∧ (s.phase ≠ .running → ∀ k, s.slot k = none)

/-- Each entry comes from one that stood in its slot. -/
def EntriesFrom (s t : State) : Prop := ∀ k e', t.slot k = some e' → ∃ e, s.slot k = some e ∧ SameBooking e e'

theorem StrictHeld.of_entriesFrom {s t : State} (held : StrictHeld s) (clock : t.clock = s.clock)
    (phase : t.phase = s.phase) (entries : EntriesFrom s t) : StrictHeld t := by
  refine ⟨fun degraded k e' stands => ?_, fun before k => ?_⟩
  · obtain ⟨e, stood, same⟩ := entries k e' stands
    have quality : t.quality = s.quality := by rw [State.quality, State.quality, clock]
    exact same.strict.trans (held.1 (quality.symm.trans degraded) k e stood)
  · rw [phase] at before
    refine Option.eq_none_iff_forall_ne_some.mpr fun e' stands => ?_
    obtain ⟨e, stood, -⟩ := entries k e' stands
    cases (held.2 before k).symm.trans stood

/-- Two changes of each entry, one after the other. -/
theorem entriesFrom_bind {o : Option Entry} {f g : Entry → Option Entry} {e' : Entry}
    (changed : (o.bind f).bind g = some e') (first : ∀ e e', f e = some e' → SameBooking e e')
    (second : ∀ e e', g e = some e' → SameBooking e e') : ∃ e, o = some e ∧ SameBooking e e' := by
  obtain ⟨e₁, before, last⟩ := Option.bind_eq_some_iff.mp changed
  obtain ⟨e, stood, earlier⟩ := Option.bind_eq_some_iff.mp before
  exact ⟨e, stood, (first e e₁ earlier).trans (second e₁ e' last)⟩

theorem entriesFrom_takeOccurrence (k : SlotId) (s : State) : EntriesFrom s (takeOccurrence k s) := by
  intro m e' stands
  rw [slot_takeOccurrence] at stands
  split at stands
  · obtain ⟨e, stood, due⟩ := Option.bind_eq_some_iff.mp stands
    exact ⟨e, stood, Entry.afterDue_same due⟩
  · exact ⟨e', stands, .refl e'⟩

theorem entriesFrom_timeStep (new : Count) (s : State) : EntriesFrom s (timeStep new s) := by
  intro k e' stands
  rw [slot_timeStep] at stands
  split at stands
  · exact entriesFrom_bind stands (fun _ _ => Entry.afterLate_same) fun _ _ => Entry.afterDue_same
  · exact ⟨e', stands, .refl e'⟩

theorem entriesFrom_leaveHold (s : State) : EntriesFrom s (leaveHold s) := by
  intro k e' stands
  rw [slot_leaveHold] at stands
  exact entriesFrom_bind stands (fun _ _ => Entry.afterLate_same) fun _ _ => Entry.afterDue_same

/-- The end of a hold moves the calendar, and the supply state (R164). -/
theorem leaveHold_moved (s : State) :
    CalendarMoved { s with supplyState := .normal, holdFilter := none } (leaveHold s) :=
  (CalendarMoved.of_onlyNotices (postAll_onlyNotices ..)).trans (resolveLate_moved _)

theorem CalendarMoved.clock {s t : State} (h : CalendarMoved s t) : t.clock = s.clock :=
  h.same State.clock fun _ _ _ _ _ => rfl

theorem CalendarMoved.phase {s t : State} (h : CalendarMoved s t) : t.phase = s.phase :=
  h.same State.phase fun _ _ _ _ _ => rfl

theorem StrictHeld.move {s t : State} (h : Move s t) (held : StrictHeld s) : StrictHeld t := by
  cases h with
  | remove v change =>
    refine held.of_entriesFrom rfl rfl fun k e' stands => ?_
    rcases change k with gone | same
    · cases gone.symm.trans stands
    · exact ⟨e', same.symm.trans stands, .refl e'⟩
  | book c b k running _ _ passed =>
    refine ⟨fun degraded m e stands => ?_, fun before => absurd running before⟩
    rw [slot_insertAtSlot] at stands
    split at stands
    · obtain rfl := Option.some.inj stands
      exact (bookingStatus_none_share passed).2 degraded
    · exact held.1 degraded m e stands
  | clock k quality =>
    refine ⟨fun degraded => held.1 (quality.resolve_right ?_), held.2⟩
    rintro rfl
    cases degraded
  | _ => exact held

theorem StrictHeld.effect {s t : State} (h : Effect s t) (held : StrictHeld s) : StrictHeld t := by
  cases h with
  | move h => exact held.move h
  | occurrence k =>
    have moved := takeOccurrence_moved k s
    exact held.of_entriesFrom moved.clock moved.phase (entriesFrom_takeOccurrence k s)
  | timeStep new _ =>
    have moved := timeStep_moved new s
    exact held.of_entriesFrom moved.clock moved.phase (entriesFrom_timeStep new s)
  | leaveHold _ _ =>
    have moved := leaveHold_moved s
    exact held.of_entriesFrom moved.clock moved.phase (entriesFrom_leaveHold s)
  | failover due =>
    have phase : (failover s).phase = s.phase := (Effect.failover due).frame.2.1
    refine ⟨fun _ k e stands => ?_, fun before k => ?_⟩
    · rw [slot_failover due, Option.filter_eq_some_iff] at stands
      simpa using stands.2
    · rw [slot_failover due, held.2 (phase ▸ before) k]
      rfl

theorem StrictHeld.of_empty {s : State} (empty : ∀ k, s.slot k = none) : StrictHeld s :=
  ⟨fun _ k e stands => (by cases (empty k).symm.trans stands), fun _ => empty⟩

theorem StrictHeld.boot {s t : State} (h : Boot s t) (held : StrictHeld s) : StrictHeld t := by
  cases h with
  | reset => exact .of_empty (slot_reset s.pending)
  | start before => exact .of_empty (s := { s with phase := _ }) (held.2 (by simp [before]))
  | optionLoad before => exact .of_empty (s := optionLoad s) (held.2 (by simp [before]))
  | clockStart k before =>
    exact .of_empty (s := { s with clock := some k, timebase := 0, run := 0, phase := .running })
      (held.2 (by simp [before]))

theorem StrictHeld.life {s t : State} (h : Life s t) (held : StrictHeld s) : StrictHeld t := by
  rcases h with (effect | engine) | boot
  · exact held.effect effect
  · cases engine <;> exact held
  · exact held.boot boot

theorem StrictHeld.counted {s : State} (held : StrictHeld s) : StrictHeld (counted s) := held

/-- Settles O59: a failover withdraws what is strict, a booking is checked against its share and the quality, and a
store marks its target. -/
theorem everyStepKeepsStrictAndShares : Obligations.EveryStepKeepsStrictAndShares := by
  refine fun s t stepped => ⟨fun ⟨strict, starting⟩ => ?_, fun ⟨share, starting⟩ => ?_,
    fun ⟨target, starting⟩ => ?_⟩
  · obtain ⟨strict, starting⟩ := step_keeps (P := StrictHeld) (fun _ _ h => h) (fun _ _ => .life)
      (fun _ _ _ => .counted) stepped ⟨strict, starting⟩
    exact ⟨strict, starting⟩
  · obtain ⟨share, starting⟩ := step_keeps_of_moves (P := SharesHeld) (fun _ _ h => h) (fun _ _ => .move)
      (fun _ _ => .shift) (fun _ _ => .engine) (fun _ _ => .boot) (fun _ _ h => h) stepped ⟨share, starting⟩
    exact ⟨share, starting⟩
  · obtain ⟨target, starting⟩ := step_keeps_of_moves (P := TargetHeld) (fun _ _ h => h) (fun _ _ => .move)
      (fun _ _ => .shift) (fun _ _ => .engine) (fun _ _ => .boot) (fun _ _ h => h) stepped ⟨target, starting⟩
    exact ⟨target, starting⟩

end Sys2Proof.Machine
end

section
/-!
PROOF. Outside a supply hold every step keeps the dues ahead of the timebase count (R59, R78). The condition that is
kept says besides that the entries are named, and that a hold that begins within the step does not end in it.
-/

namespace Sys2Proof.Machine

/-! ## Dues and counts -/

/-- A repeat has a period (R55). -/
def Periodic (e : Entry) : Prop := ∀ r, e.body.rep = some r → 1 ≤ r.period.toNat

theorem EntryNamed.periodic {k : SlotId} {u : BitVec 10} {e : Entry} (named : EntryNamed k u e) : Periodic e :=
  fun r rep => by have := (named.repeats r rep).1; omega

/-- The due of an entry brought forward from the count by one period (R87). -/
theorem due_advanced_one {e e' : Entry} {count : Count} (periodic : Periodic e) (due : e.body.due = count)
    (left : e.advanced 1 = some e') :
    1 ≤ distanceAhead e'.body.due count ∧ distanceAhead e'.body.due count < 2 ^ 32 := by
  obtain ⟨r, n, rep, rfl, -⟩ := Entry.advanced_some left
  have least := periodic r rep
  have most := r.period.isLt
  simp only [due, Nat.one_mul, distanceAhead, add_sub_cancel_left, BitVec.toNat_ofNat]
  omega

/-- An entry after its occurrence does not stand at the count (R87). -/
theorem Entry.afterDue_apart {count : Count} {e e' : Entry} (periodic : Periodic e)
    (left : e.afterDue .normal count = some e') : e'.body.due ≠ count := by
  unfold Entry.afterDue at left
  split at left
  next due =>
    have ahead := (due_advanced_one periodic due.2 left).1
    intro same
    simp [same, distanceAhead] at ahead
  next early =>
    obtain rfl := Option.some.inj left
    exact fun due => early ⟨rfl, due⟩

/-- An occurrence keeps a due within a distance of at least a period ahead (R87). -/
theorem Entry.afterDue_within {supply : SupplyState} {count : Count} {e e' : Entry} {bound : Nat}
    (periodic : Periodic e) (large : 2 ^ 32 ≤ bound) (within : distanceAhead e.body.due count ≤ bound)
    (left : e.afterDue supply count = some e') : distanceAhead e'.body.due count ≤ bound := by
  unfold Entry.afterDue at left
  split at left
  next due =>
    have := (due_advanced_one periodic due.2 left).2
    omega
  next =>
    obtain rfl := Option.some.inj left
    exact within

/-- A late entry that is brought forward stands less than a period ahead of the count (R71). -/
theorem due_advanced_missed {e e' : Entry} {count : Count} (periodic : Periodic e)
    (behind : isBehind e.body.due count = true)
    (left : e.advanced (missedOccurrences e.body count) = some e') :
    distanceAhead e'.body.due count < 2 ^ 32 := by
  obtain ⟨r, n, rep, rfl, -⟩ := Entry.advanced_some left
  obtain ⟨least, ahead, before⟩ := missedOccurrences_spec e.body r count rep (periodic r rep) behind
  obtain ⟨m, missed⟩ : ∃ m, missedOccurrences e.body count = m + 1 := ⟨_, (Nat.succ_pred_eq_of_pos least).symm⟩
  have last := before m (by omega)
  have most := r.period.isLt
  rw [missed] at ahead
  rw [missed]
  have step : (m + 1) * r.period.toNat = m * r.period.toNat + r.period.toNat := Nat.succ_mul ..
  rw [step] at ahead
  simp only [step]
  simp only [isBehind, Bool.not_eq_true', Bool.eq_false_iff, ne_eq, isAhead_iff, BitVec.toNat_add,
    BitVec.toNat_ofNat] at ahead last
  simp only [distanceAhead, distance_eq, BitVec.toNat_add, BitVec.toNat_ofNat]
  generalize m * r.period.toNat = x at *
  omega

/-- An entry after its late resolution stands within any distance ahead within which it stood before, if it was not
late (R71). -/
theorem Entry.afterLate_within {count : Count} {e e' : Entry} {bound : Nat} (periodic : Periodic e)
    (large : 2 ^ 32 ≤ bound) (within : isBehind e.body.due count = false → distanceAhead e.body.due count ≤ bound)
    (left : e.afterLate count = some e') : distanceAhead e'.body.due count ≤ bound := by
  unfold Entry.afterLate at left
  split at left
  next behind =>
    have advanced : ∀ left : e.advanced (missedOccurrences e.body count) = some e',
        distanceAhead e'.body.due count ≤ bound := fun left =>
      (due_advanced_missed periodic behind left).le.trans large
    split at left
    · exact advanced left
    · exact advanced left
    · cases left
  next ahead =>
    obtain rfl := Option.some.inj left
    exact within (by simpa using ahead)

/-- An entry brought forward keeps its period. -/
theorem Periodic.advanced {e e' : Entry} {n : Nat} (periodic : Periodic e) (left : e.advanced n = some e') :
    Periodic e' := by
  obtain ⟨r, count, rep, rfl, -⟩ := Entry.advanced_some left
  rintro r' ⟨⟩
  exact periodic r rep

theorem Periodic.afterLate {count : Count} {e e' : Entry} (periodic : Periodic e)
    (left : e.afterLate count = some e') : Periodic e' := by
  unfold Entry.afterLate at left
  split at left
  · split at left
    · exact periodic.advanced left
    · exact periodic.advanced left
    · cases left
  · obtain rfl := Option.some.inj left
    exact periodic

/-- An entry after a whole late resolution: within a distance ahead, and outside a hold not at the count (R70). -/
theorem afterResolution {supply : SupplyState} {count : Count} {e e' : Entry} {bound : Nat} (periodic : Periodic e)
    (large : 2 ^ 32 ≤ bound) (within : isBehind e.body.due count = false → distanceAhead e.body.due count ≤ bound)
    (left : (e.afterLate count).bind (Entry.afterDue supply count) = some e') :
    distanceAhead e'.body.due count ≤ bound ∧ (supply = .normal → e'.body.due ≠ count) := by
  obtain ⟨e₁, late, due⟩ := Option.bind_eq_some_iff.mp left
  have periodic₁ := periodic.afterLate late
  refine ⟨Entry.afterDue_within periodic₁ large (Entry.afterLate_within periodic large within late) due, ?_⟩
  rintro rfl
  exact Entry.afterDue_apart periodic₁ due

/-! ## The steps of the timebase count -/

/-- A step may be made: to the same count, or where both checks pass (R23). -/
theorem stepAllowed_iff (new : Count) (s : State) :
    stepAllowed new s = true ↔
      s.timebase = new ∨ withinStepLimit new s = true
        ∧ ∀ k e, s.slot k = some e → beyondHorizon new e = false ∧ pushedBeyond s.timebase new e = false := by
  have horizon : withinHorizon new s = true ↔
      ∀ k e, s.slot k = some e → beyondHorizon new e = false ∧ pushedBeyond s.timebase new e = false := by
    rw [withinHorizon, Bool.not_eq_true', ← Bool.not_eq_true, any_slots_iff]
    simp only [not_exists, not_and, Bool.not_eq_true, Bool.or_eq_false_iff]
  simp only [stepAllowed, Bool.or_eq_true, Bool.and_eq_true, beq_iff_eq, horizon]

/-- The three kinds of step (R5). -/
theorem stepOf_cases (old new : Count) :
    new = old ∧ stepOf old new = (.none, 0)
      ∨ stepOf old new = (.forward, distanceAhead new old) ∧ 1 ≤ distanceAhead new old
        ∧ distanceAhead new old < 2 ^ 47
      ∨ stepOf old new = (.backward, 2 ^ 48 - distanceAhead new old) ∧ 2 ^ 47 ≤ distanceAhead new old := by
  unfold stepOf
  dsimp only
  by_cases none : distanceAhead new old = 0
  · refine .inl ⟨?_, if_pos none⟩
    unfold distanceAhead at none
    bv_omega
  · by_cases forward : distanceAhead new old < Config.halfRange
    · exact .inr (.inl ⟨by rw [if_neg none, if_pos forward], by omega, forward⟩)
    · exact .inr (.inr ⟨by rw [if_neg none, if_neg forward], by rw [Config.halfRange] at forward; omega⟩)

/-- An entry that an allowed step forward leaves ahead stands within the horizon (R23). -/
theorem within_of_beyondHorizon {new : Count} {e : Entry} (inside : beyondHorizon new e = false)
    (ahead : isBehind e.body.due new = false) : distanceAhead e.body.due new ≤ 2 ^ 40 := by
  rw [isBehind, Bool.not_eq_false'] at ahead
  rw [beyondHorizon, ahead, Bool.true_and, decide_eq_false_iff_not, not_lt] at inside
  exact inside

/-- An entry ahead of the count that an allowed step takes backward stands within the horizon, and not at the new
count (R7, R23). -/
theorem within_of_pushedBeyond {old new : Count} {e : Entry} (inside : pushedBeyond old new e = false)
    (backward : stepOf old new = (.backward, 2 ^ 48 - distanceAhead new old)) (large : 2 ^ 47 ≤ distanceAhead new old)
    (ahead : distanceAhead e.body.due old ≤ 2 ^ 40) :
    distanceAhead e.body.due new ≤ 2 ^ 40 ∧ e.body.due ≠ new := by
  have front : isAhead e.body.due old = true := by
    rw [isAhead, decide_eq_true_eq, Config.halfRange]
    omega
  simp only [pushedBeyond, front, backward, BEq.rfl, Bool.true_and, decide_eq_false_iff_not, not_lt,
    Config.horizon] at inside
  constructor
  · unfold distanceAhead at *
    bv_omega
  · rintro rfl
    unfold distanceAhead at *
    bv_omega

/-! ## The condition that is kept -/

/-- Outside a hold a slot's due lies ahead by at most 2^40 ticks and, where `apart` says so, not at the count (R59,
R78). -/
def SlotAhead (apart : Prop) (s : State) (k : SlotId) : Prop :=
  s.supplyState = .normal → ∀ e, s.slot k = some e →
    distanceAhead e.body.due s.timebase ≤ 2 ^ 40 ∧ (apart → e.body.due ≠ s.timebase)

/-- In a hold the hold filter was latched at most `n` ticks ago, if it runs. -/
def FilterWithin (n : Nat) (s : State) : Prop :=
  s.supplyState = .hold → ∀ latched, s.holdFilter = some latched → distanceAhead s.run latched ≤ n

/-- Before ports ready the calendar is empty, no hold is in force, and the monitor has not looked at the supply. -/
def StartsEmpty (s : State) : Prop :=
  s.phase ≠ .running →
    (∀ k, s.slot k = none) ∧ s.supplyState = .normal ∧ s.holdFilter = none ∧ s.sampled = false

/-- What a step keeps that begins outside a hold, after `n` ticks: the entries have their periods, the dues lie ahead,
and a hold that has begun cannot end. -/
def DuesKept (n : Nat) (apart : SlotId → Prop) (s : State) : Prop :=
  AllNamed s ∧ StartsEmpty s ∧ (∀ k, SlotAhead (apart k) s k) ∧ FilterWithin n s

/-- No hold ends so soon (R164). -/
theorem FilterWithin.no_exit {n : Nat} {s : State} (within : FilterWithin n s) (few : n ≤ 1)
    (hold : s.supplyState = .hold) : s.holdFilterConfirmed ≠ true := by
  intro confirmed
  obtain ⟨latched, filter, ran⟩ : ∃ latched, s.holdFilter = some latched ∧ 20 ≤ distanceAhead s.run latched := by
    simpa only [State.holdFilterConfirmed, Option.any_eq_true, hasAdvanced_iff, Config.holdFilterTicks] using confirmed
  have := within hold latched filter
  omega

theorem StartsEmpty.of_entriesFrom {s t : State} (starts : StartsEmpty s) (phase : t.phase = s.phase)
    (supply : t.supplyState = s.supplyState) (filter : t.holdFilter = s.holdFilter)
    (sampled : t.sampled = s.sampled) (entries : EntriesFrom s t) : StartsEmpty t := by
  intro before
  rw [phase] at before
  obtain ⟨empty, normal, unfiltered, unsampled⟩ := starts before
  refine ⟨fun k => Option.eq_none_iff_forall_ne_some.mpr fun e' stands => ?_, supply.trans normal,
    filter.trans unfiltered, sampled.trans unsampled⟩
  obtain ⟨e, stood, -⟩ := entries k e' stands
  cases (empty k).symm.trans stood

/-! ## The moves -/

/-- A booking whose checks have passed is due between the least lead and the horizon (R60). -/
theorem bookingStatus_none_due {c : ClientId} {b : Booking} {s : State} (passed : bookingStatus c b s = none) :
    50 ≤ distanceAhead b.due s.timebase ∧ distanceAhead b.due s.timebase ≤ 2 ^ 40 := by
  unfold bookingStatus at passed
  repeat' split at passed
  all_goals try cases passed
  next _ _ soon far _ _ =>
    rw [Bool.or_eq_true, not_or, decide_eq_true_iff, not_lt] at soon
    exact ⟨soon.2, not_lt.mp far⟩

theorem SlotAhead.of_none {apart : Prop} {s : State} {k : SlotId} (none : s.slot k = none) :
    SlotAhead apart s k := by
  intro _ e stands
  cases none.symm.trans stands

theorem DuesKept.move {n : Nat} {apart : SlotId → Prop} {s t : State} (h : Move s t) (kept : DuesKept n apart s) :
    DuesKept n apart t := by
  have named : AllNamed t := kept.1.move h
  obtain ⟨-, starts, ahead, within⟩ := kept
  cases h with
  | remove v change =>
    refine ⟨named, fun before => ?_, fun k => ?_, within⟩
    · obtain ⟨empty, rest⟩ := starts before
      exact ⟨fun k => (change k).elim id (·.trans (empty k)), rest⟩
    · rcases change k with gone | same
      · exact .of_none gone
      · intro normal e stands
        exact ahead k normal e (same.symm.trans stands)
  | book c b k running _ _ passed =>
    refine ⟨named, fun before => absurd running before, fun m normal e stands => ?_, within⟩
    rw [slot_insertAtSlot] at stands
    split at stands
    next =>
      obtain rfl := Option.some.inj stands
      obtain ⟨least, most⟩ := bookingStatus_none_due passed
      refine ⟨most, fun _ same => ?_⟩
      change b.due = s.timebase at same
      simp [same, distanceAhead] at least
    next => exact ahead m normal e stands
  | enterHold normal confirmed =>
    refine ⟨named, fun before => ?_, fun k => (by rintro ⟨⟩), fun _ latched filter => (by cases filter)⟩
    obtain ⟨-, -, unfiltered, -⟩ := starts before
    simp [State.holdFilterConfirmed, unfiltered] at confirmed
  | filter latched sampled looked =>
    refine ⟨named, fun before => ?_, ahead, fun hold latched' filter => ?_⟩
    · cases sampled.symm.trans (starts before).2.2.2
    · rcases looked with rfl | rfl
      · cases filter
      · cases old : s.holdFilter with
        | none =>
          rw [old] at filter
          cases filter
          simp [distanceAhead]
        | some since =>
          rw [old] at filter
          cases filter
          exact within hold since old
  | _ => exact ⟨named, starts, ahead, within⟩

/-! ## The larger events -/

theorem CalendarMoved.run {s t : State} (h : CalendarMoved s t) : t.run = s.run :=
  h.same State.run fun _ _ _ _ _ => rfl

theorem CalendarMoved.holdFilter {s t : State} (h : CalendarMoved s t) : t.holdFilter = s.holdFilter :=
  h.same State.holdFilter fun _ _ _ _ _ => rfl

theorem CalendarMoved.sampled {s t : State} (h : CalendarMoved s t) : t.sampled = s.sampled :=
  h.same State.sampled fun _ _ _ _ _ => rfl

/-- An event of the calendar that leaves the supply and the counts, but for the timebase count, as they are. -/
theorem DuesKept.of_moved {n : Nat} {apart after : SlotId → Prop} {s u t : State} (kept : DuesKept n apart s)
    (h : CalendarMoved u t) (named : AllNamed t)
    (same : u.phase = s.phase ∧ u.supplyState = s.supplyState ∧ u.holdFilter = s.holdFilter
      ∧ u.sampled = s.sampled ∧ u.run = s.run)
    (entries : EntriesFrom s t) (ahead : ∀ k, SlotAhead (after k) t k) : DuesKept n after t := by
  obtain ⟨phase, supply, filter, sampled, run⟩ := same
  have supply' := h.supplyState.trans supply
  refine ⟨named, kept.2.1.of_entriesFrom (h.phase.trans phase) supply' (h.holdFilter.trans filter)
    (h.sampled.trans sampled) entries, ahead, ?_⟩
  unfold FilterWithin
  rw [supply', h.holdFilter, filter, h.run, run]
  exact kept.2.2.2

/-- An occurrence brings its slot's entry off the count (R81, R87). -/
theorem DuesKept.occurrence {n : Nat} {apart : SlotId → Prop} {s : State} (kept : DuesKept n apart s)
    (named : ∀ k, AllNamed (takeOccurrence k s)) (k : SlotId) :
    DuesKept n (fun m => apart m ∨ m = k) (takeOccurrence k s) := by
  have moved := takeOccurrence_moved k s
  refine kept.of_moved moved (named k) ⟨rfl, rfl, rfl, rfl, rfl⟩ (entriesFrom_takeOccurrence k s)
    fun m normal e' stands => ?_
  rw [moved.supplyState] at normal
  rw [slot_takeOccurrence] at stands
  rw [moved.timebase]
  split at stands
  next =>
    obtain ⟨e, stood, due⟩ := Option.bind_eq_some_iff.mp stands
    have periodic := (kept.1 m e stood).periodic
    refine ⟨Entry.afterDue_within periodic (by norm_num) (kept.2.2.1 m normal e stood).1 due, fun _ => ?_⟩
    rw [normal] at due
    exact Entry.afterDue_apart periodic due
  next other =>
    obtain ⟨within, off⟩ := kept.2.2.1 m normal e' stands
    exact ⟨within, fun h => off (h.resolve_right fun same => other same.symm)⟩

/-- A step of the timebase count that passes its checks leaves the dues ahead (R23, R26). -/
theorem DuesKept.timeStep {n : Nat} {apart : SlotId → Prop} {s : State} (kept : DuesKept n apart s) {new : Count}
    (allowed : stepAllowed new s = true) (named : AllNamed (timeStep new s)) :
    DuesKept n apart (timeStep new s) := by
  have moved := timeStep_moved new s
  refine kept.of_moved moved named ⟨rfl, rfl, rfl, rfl, rfl⟩ (entriesFrom_timeStep new s)
    fun k normal e' stands => ?_
  rw [moved.supplyState] at normal
  change s.supplyState = .normal at normal
  rw [moved.timebase]
  change distanceAhead e'.body.due new ≤ 2 ^ 40 ∧ (apart k → e'.body.due ≠ new)
  rw [slot_timeStep] at stands
  rw [stepAllowed_iff] at allowed
  rcases stepOf_cases s.timebase new with ⟨rfl, none⟩ | ⟨forward, least, -⟩ | ⟨backward, large⟩
  · rw [if_neg (by simp [none])] at stands
    exact kept.2.2.1 k normal e' stands
  · rw [if_pos ⟨by rw [forward], normal⟩] at stands
    rw [Option.bind_assoc] at stands
    obtain ⟨e, stood, left⟩ := Option.bind_eq_some_iff.mp stands
    obtain ⟨inside, -⟩ := (allowed.resolve_left fun same => by simp [same, distanceAhead] at least).2 k e stood
    obtain ⟨within, off⟩ := afterResolution (kept.1 k e stood).periodic (by norm_num)
      (within_of_beyondHorizon inside) left
    exact ⟨within, fun _ => off rfl⟩
  · rw [if_neg (by simp [backward])] at stands
    obtain ⟨-, inside⟩ := (allowed.resolve_left fun same => by simp [same, distanceAhead] at large).2 k e' stands
    obtain ⟨within, off⟩ := within_of_pushedBeyond inside backward large (kept.2.2.1 k normal e' stands).1
    exact ⟨within, fun _ => off⟩

/-- A failover only removes entries (R10, R76). -/
theorem DuesKept.failover {n : Nat} {apart : SlotId → Prop} {s : State} (kept : DuesKept n apart s)
    (due : s.failoverDue = true) (named : AllNamed (failover s)) : DuesKept n apart (failover s) := by
  have posted := postAll_onlyNotices .clock (.clock .backup) { s with clock := some .backup, missingCycles := 0 }
  have moved : CalendarMoved { s with clock := some .backup, missingCycles := 0 } (Machine.failover s) := by
    rw [Machine.failover, if_pos due]
    exact (CalendarMoved.of_onlyNotices posted).trans (withdrawStrict_moved _)
  have slots : ∀ k e, (Machine.failover s).slot k = some e → s.slot k = some e := by
    intro k e stands
    rw [slot_failover due, Option.filter_eq_some_iff] at stands
    exact stands.1
  refine kept.of_moved moved named ⟨rfl, rfl, rfl, rfl, rfl⟩
    (fun k e stands => ⟨e, slots k e stands, .refl e⟩) fun k normal e stands => ?_
  rw [moved.supplyState] at normal
  rw [moved.timebase]
  exact kept.2.2.1 k normal e (slots k e stands)

/-- More slots that are known to stand off the count are more than fewer. -/
theorem DuesKept.weaken {n : Nat} {apart fewer : SlotId → Prop} {s : State} (kept : DuesKept n apart s)
    (fewer_apart : ∀ k, fewer k → apart k) : DuesKept n fewer s :=
  ⟨kept.1, kept.2.1, fun k normal e stands =>
    ⟨(kept.2.2.1 k normal e stands).1, fun h => (kept.2.2.1 k normal e stands).2 (fewer_apart k h)⟩, kept.2.2.2⟩

theorem AllNamed.effect {s t : State} (h : Effect s t) (named : AllNamed s) : AllNamed t :=
  h.keeps (fun _ _ => .move) (fun _ _ => .shift) named

theorem DuesKept.event {n : Nat} (few : n ≤ 1) {apart : SlotId → Prop} {s t : State} (h : Event s t)
    (kept : DuesKept n apart s) : DuesKept n apart t := by
  cases h with
  | engine h => cases h <;> exact kept
  | effect h =>
    have named := kept.1.effect h
    cases h with
    | move h => exact kept.move h
    | occurrence k =>
      exact (kept.occurrence (fun k => kept.1.effect (.occurrence k)) k).weaken fun _ => .inl
    | timeStep new allowed => exact kept.timeStep allowed named
    | leaveHold hold confirmed => exact absurd confirmed (kept.2.2.2.no_exit few hold)
    | failover due => exact kept.failover due named

/-! ## The steps -/

/-- With an empty calendar outside a hold there is nothing to keep. -/
theorem DuesKept.of_empty {n : Nat} {apart : SlotId → Prop} {s : State} (empty : ∀ k, s.slot k = none)
    (normal : s.supplyState = .normal) (starts : StartsEmpty s) : DuesKept n apart s :=
  ⟨fun k e stands => (by cases (empty k).symm.trans stands), starts, fun k => .of_none (empty k),
    fun hold => (by cases normal.symm.trans hold)⟩

theorem DuesKept.boot {n : Nat} {apart : SlotId → Prop} {s t : State} (h : Boot s t) (kept : DuesKept n apart s) :
    DuesKept n apart t := by
  obtain ⟨-, starts, -, -⟩ := kept
  cases h with
  | reset => exact .of_empty (slot_reset s.pending) rfl fun _ => ⟨slot_reset s.pending, rfl, rfl, rfl⟩
  | start before =>
    obtain ⟨empty, normal, rest⟩ := starts (by simp [before])
    exact .of_empty (s := { s with phase := _ }) empty normal fun _ => ⟨empty, normal, rest⟩
  | optionLoad before =>
    obtain ⟨empty, normal, rest⟩ := starts (by simp [before])
    exact .of_empty (s := optionLoad s) empty normal fun _ => ⟨empty, normal, rest⟩
  | clockStart k before =>
    obtain ⟨empty, normal, -⟩ := starts (by simp [before])
    exact .of_empty (s := { s with clock := some k, timebase := 0, run := 0, phase := .running }) empty normal
      fun running => absurd rfl running

/-- When everything due has been taken no due is at the count (R81). -/
theorem DuesKept.settle {n : Nat} (few : n ≤ 1) {s : State} (kept : DuesKept n (fun _ => False) s) (k : SlotId) :
    DuesKept n (· = k) (settle s) := by
  refine settle_achieves (P := DuesKept n fun _ => False) (Q := DuesKept n (· = k)) (.occurrence k)
    (fun _ _ event => .event few event) (fun _ _ event => .event few event) ?_ ?_
  · exact fun u kept =>
      (kept.occurrence (fun k => kept.1.effect (.occurrence k)) k).weaken fun _ => .inr
  · by_cases due : ∃ e, s.slot k = some e ∧ isDue e s = true
    · refine .inr ⟨kept, ?_⟩
      obtain ⟨e, stands, due⟩ := due
      have mem : DueEvent.occurrence k ∈ (s.entries.filter fun p => isDue p.2 s).map fun p => .occurrence p.1 :=
        List.mem_map.mpr ⟨(k, e), List.mem_filter.mpr ⟨(mem_entries ..).mpr stands, due⟩, rfl⟩
      unfold dueEvents
      simp only [List.mem_append, mem, true_or, or_true]
    · refine .inl ⟨kept.1, kept.2.1, fun m normal e stands => ⟨(kept.2.2.1 m normal e stands).1, ?_⟩, kept.2.2.2⟩
      rintro rfl same
      exact due ⟨e, stands, (isDue_iff e s).mpr ⟨normal, same⟩⟩

/-- A tick brings each due nearer by one (R2). -/
theorem DuesKept.counted {n : Nat} (few : n ≤ 1) {s : State} (running : s.phase = .running)
    (kept : ∀ k, DuesKept n (· = k) s) : DuesKept (n + 1) (fun _ => False) (counted s) := by
  obtain ⟨named, -, -, within⟩ := kept 0
  refine ⟨named, fun before => absurd running before, fun k normal e stands => ⟨?_, fun h => h.elim⟩,
    fun hold latched filter => distanceAhead_succ (within hold latched filter) (by omega)⟩
  obtain ⟨ahead, off⟩ := (kept k).2.2.1 k normal e stands
  have apart := off rfl
  change distanceAhead e.body.due (s.timebase + 1) ≤ 2 ^ 40
  generalize s.timebase = count at *
  unfold distanceAhead at *
  bv_omega

/-- What a step keeps, while it is short. -/
theorem duesKept_stepKept : StepKept fun n s => n ≤ 1 → DuesKept n (fun _ => False) s := by
  refine ⟨fun n s q h => h, fun n s t life kept few => ?_, fun n s running kept few => ?_⟩
  · exact life.elim (fun event => .event few event (kept few)) (fun boot => .boot boot (kept few))
  · have few' : n ≤ 1 := by omega
    have settled : (Machine.settle s).phase = .running := (settle_events s).frame.2.1.trans running
    exact .counted few' settled fun k => (kept few').settle few' k

/-- Settles O60: an occurrence at the count is taken before the next tick, the checks of a step hold the dues within
the horizon, and a hold that begins in a step does not end in it. -/
theorem everyStepKeepsDuesAhead : Obligations.EveryStepKeepsDuesAhead := by
  intro s t named ahead running normal stepped normal'
  have start : DuesKept 0 (fun _ => False) s :=
    ⟨(entriesNamed_iff s).mp named, fun before => absurd running before,
      fun k _ e stands => ⟨ahead k e stands, fun h => h.elim⟩, fun hold => (by cases normal.symm.trans hold)⟩
  rcases duesKept_stepKept.step stepped fun _ => start with kept | kept
  · exact fun k e stands => ((kept (by norm_num)).2.2.1 k normal' e stands).1
  · exact fun k e stands => ((kept (by norm_num)).2.2.1 k normal' e stands).1

end Sys2Proof.Machine
end

section
/-!
PROOF. The step and the queue of commands, the state after reset with its invariants, and the check values of the
checksums (R177, R180).
-/

namespace Sys2Proof.Machine

/-! ## The queue of commands -/

/-- Settles O1. -/
theorem stepRunsTheFrontCommand : Obligations.StepRunsTheFrontCommand := by
  intro c rest s front
  unfold step
  rw [front]

/-- The device's life leaves the queue of commands as it is. -/
theorem Life.pending {s t : State} (h : Life s t) : t.pending = s.pending :=
  Life.keeps (P := fun u => u.pending = s.pending) (fun _ _ move same => by cases move <;> exact same)
    (fun _ _ shift same => by cases shift <;> exact same) (fun _ _ engine same => by cases engine <;> exact same)
    (fun _ _ boot same => by cases boot <;> exact same) s t h rfl

theorem Lives.pending {s t : State} (h : Lives s t) : t.pending = s.pending :=
  reflTransGen_keeps (P := fun u => u.pending = s.pending) (fun _ _ life same => life.pending.trans same) h rfl

/-- A tick leaves the queue of commands as it is. -/
theorem counted_pending (s : State) : (counted s).pending = s.pending := rfl

theorem Passed.pending {s t : State} {n : Nat} (h : Passed s n t) : t.pending = s.pending := by
  induction h with
  | start => rfl
  | event _ event ih => exact (Life.pending (.inl event)).trans ih
  | @tick _ u _ _ ih =>
    rw [counted_pending]
    exact (Lives.pending (settle_events u).lives).trans ih

/-- A pulse that is at another time than its end time has no pulse end (R49). -/
theorem endPulse_early {l : LineId} {s : State} (early : ∀ p, (s.line l).pulse = some p → p.endAt ≠ s.run) :
    endPulse l s = s := by
  unfold endPulse
  split
  next p pulse => rw [if_neg (early p pulse)]
  next => rfl

/-- Settles O2: a command is made of the device's events, its start steps and at most one tick, none of which reads
the queue. -/
theorem everyCommandAnswersNextAndKeepsTheQueue : Obligations.EveryCommandAnswersNextAndKeepsTheQueue := by
  refine ⟨fun c s => ?_, fun l s early => congrArg Host.Outcome.next (endPulse_early early)⟩
  obtain ⟨t, answer, lives | ⟨n, -, passed⟩⟩ := exec_reaches c s
  · exact ⟨t, answer, lives.pending⟩
  · exact ⟨t, answer, passed.pending⟩

/-! ## The state after reset -/

/-- The state after reset, with its queue of commands. -/
theorem reset_eq : State.reset = { State.reset with pending := [] } := rfl

/-- Settles O40: the fields of the reset state, and each place of its vectors. -/
theorem resetValues : Obligations.ResetValues := by
  refine ⟨rfl, rfl, rfl, rfl, rfl, rfl, rfl, rfl, rfl, rfl, rfl, rfl, rfl, line_reset [],
    fun k => ⟨slot_reset [] k, Vector.getElem_replicate k.isLt⟩, fun i => Vector.getElem_replicate i.isLt,
    fun c => ?_, rfl, rfl, rfl, rfl, rfl, rfl, rfl, rfl⟩
  rw [reset_eq, client_reset]
  exact ⟨rfl, rfl, rfl, rfl, fun i => Vector.getElem_replicate i.isLt, rfl, rfl, rfl⟩

/-- Settles O52: the invariants hold where nothing is held, no session is open and no entry stands. -/
theorem invariantsHoldAtReset : Obligations.InvariantsHoldAtReset := by
  have empty : ∀ k, State.reset.slot k = none := slot_reset []
  have clients : ∀ c, State.reset.client c = Client.reset := client_reset []
  refine ⟨(owned_iff _).mpr (.reset []), (queuesBounded_iff _).mpr fun c => ?_,
    (entriesNamed_iff _).mpr fun k e stands => ?_, (linesRest_iff _).mpr ?_, fun c q k pending => ?_,
    (deadlinesAhead_iff _).mpr ⟨fun c d opened => ?_, fun _ c => ?_⟩, ?_, ?_, ?_, fun k e stands => ?_, ?_⟩
  · rw [clients c]
    exact ⟨.nil, .nil⟩
  · cases (empty k).symm.trans stands
  · refine ⟨fun l => ?_, fun _ => ⟨rfl, rfl, rfl, fun l => ?_⟩, fun _ l => ?_⟩
    · rw [reset_eq, line_reset]
      exact ⟨fun ready => by simp [Phase.LinesReady, State.reset] at ready, fun _ => rfl, by rintro ⟨⟩⟩
    · rw [reset_eq, line_reset]
      rfl
    · rw [reset_eq, line_reset]
      rfl
  · rw [clients c] at pending
    cases pending
  · rw [clients c] at opened
    cases opened
  · rw [clients c]
    rfl
  · exact ⟨by rintro j ⟨⟩, fun _ => rfl, by rintro c ⟨⟩⟩
  · exact ⟨fun _ k e stands => (by cases (empty k).symm.trans stands), fun _ => empty⟩
  · exact ⟨fun c => (entryCount_eq_zero empty c).trans_le (Nat.zero_le _), fun _ => empty⟩
  · cases (empty k).symm.trans stands
  · exact ⟨by rintro job ⟨⟩, fun _ => rfl⟩

/-! ## The checksums -/

/-- Settles O50: by computation. -/
theorem checksumsGiveTheCheckValues : Obligations.ChecksumsGiveTheCheckValues := by
  unfold Obligations.ChecksumsGiveTheCheckValues
  decide +kernel

end Sys2Proof.Machine
end

section
/-!
PROOF. How a step of the timebase count is classified, and which steps pass the checks (R5, R7, R23).
-/

namespace Sys2Proof.Machine

/-- A step's kind and size, on numbers (R5). -/
theorem stepOf_by_distance (old new : Count) :
    let d := (new.toNat + 2 ^ 48 - old.toNat) % 2 ^ 48
    (d = 0 → stepOf old new = (.none, 0))
    ∧ (1 ≤ d → d ≤ 2 ^ 47 - 1 → stepOf old new = (.forward, d))
    ∧ (2 ^ 47 ≤ d → stepOf old new = (.backward, 2 ^ 48 - d)) := by
  intro d
  have distance : distanceAhead new old = d := distance_eq new old
  unfold stepOf
  rw [distance, Config.halfRange]
  dsimp only
  refine ⟨fun zero => if_pos zero, fun least most => ?_, fun large => ?_⟩
  · rw [if_neg (by omega), if_pos (by omega)]
  · rw [if_neg (by omega), if_neg (by omega)]

/-- The step limit applies once the time is SET (R23). -/
theorem withinStepLimit_iff (new : Count) (s : State) :
    withinStepLimit new s = true ↔ s.timeState = .unset ∨ (stepOf s.timebase new).2 ≤ 4294967295 := by
  simp only [withinStepLimit, Bool.or_eq_true, beq_iff_eq, decide_eq_true_eq]
  rfl

/-- An entry does not lie beyond the horizon of a count where it is behind it, or near enough (R23). -/
theorem beyondHorizon_eq_false_iff (count : Count) (e : Entry) :
    beyondHorizon count e = false ↔
      2 ^ 47 ≤ distanceAhead e.body.due count ∨ distanceAhead e.body.due count ≤ 1099511627776 := by
  simp only [beyondHorizon, isAhead, Bool.and_eq_false_iff, decide_eq_false_iff_not, not_lt]
  rfl

/-- A step pushes no entry beyond the horizon where it does not go backward, or the entry is behind the count or near
enough (R7, R23). -/
theorem pushedBeyond_eq_false_iff (count new : Count) (e : Entry) :
    pushedBeyond count new e = false ↔
      ((stepOf count new).1 = .backward → distanceAhead e.body.due count < 2 ^ 47 →
        distanceAhead e.body.due count + (stepOf count new).2 ≤ 1099511627776) := by
  simp only [pushedBeyond, isAhead, Bool.and_eq_false_iff, decide_eq_false_iff_not, not_lt, beq_eq_false_iff_ne]
  simp only [Config.halfRange, Config.horizon, ← not_lt (b := (2 ^ 47 : Nat))]
  tauto

/-- Settles O7. -/
theorem stepClassificationAndChecks : Obligations.StepClassificationAndChecks := by
  refine ⟨stepOf_by_distance, fun new s => ?_⟩
  rw [stepAllowed_iff, withinStepLimit_iff, eq_comm]
  refine or_congr Iff.rfl (and_congr Iff.rfl (forall₃_congr fun k e _ => ?_))
  rw [beyondHorizon_eq_false_iff, pushedBeyond_eq_false_iff, distanceAhead, distanceAhead, distance_eq, distance_eq]

/-! ## The calendar's own events -/

/-- What OCCURRENCE makes of the state. -/
theorem exec_occurrence (k : SlotId) (s : State) : exec (.occurrence k) s = .next (takeOccurrence k s) := rfl

theorem takeOccurrence_due {k : SlotId} {s : State} {e : Entry} (held : s.slot k = some e)
    (normal : s.supplyState = .normal) (due : e.body.due = s.timebase) :
    takeOccurrence k s = advanceEntry k e 1 (onTimeOutcome e s) (applyEntry e s) := by
  unfold takeOccurrence
  rw [held]
  dsimp only
  rw [if_pos ((isDue_iff e s).mpr ⟨normal, due⟩)]

theorem takeOccurrence_early {k : SlotId} {s : State} {e : Entry} (held : s.slot k = some e)
    (early : s.supplyState = .hold ∨ e.body.due ≠ s.timebase) : takeOccurrence k s = s := by
  unfold takeOccurrence
  rw [held]
  dsimp only
  rw [if_neg]
  rw [isDue_iff]
  rintro ⟨normal, due⟩
  rcases early with hold | late
  · cases normal.symm.trans hold
  · exact late due

/-- Bringing an entry forward touches no line (R87). -/
theorem lines_advanceEntry (k : SlotId) (e : Entry) (n : Nat) (outcome : FireOutcome) (s : State) :
    (advanceEntry k e n outcome s).lines = s.lines := by
  obtain ⟨vs, same, -⟩ := postFired_onlyNotices e outcome (consume e.body n).2 (consume e.body n).1.isNone
    (s.setSlot k ((consume e.body n).1.map fun b => { e with body := b }))
  rw [advanceEntry, same]
  rfl

theorem line_eq_of_lines {s t : State} (same : t.lines = s.lines) (l : LineId) : t.line l = s.line l := by
  rw [State.line, State.line, same]

/-- The guard of an entry is met or absent, or unmet (R82). -/
theorem guardMet_iff (b : Booking) (s : State) :
    guardMet b s = true ↔ ∀ g, b.guard = some g → (s.input g.input).level = g.level := by
  unfold guardMet
  cases b.guard with
  | none => simp
  | some g => simp

/-- An entry whose guard is met hands its action to its own line (R46, R82). -/
theorem applyEntry_met {e : Entry} {s : State} (met : guardMet e.body s = true) :
    applyEntry e s = s.setLine e.body.line ((s.line e.body.line).apply e.body.action s.run) := if_pos met

/-- An entry whose guard is unmet acts on no line (R83). -/
theorem applyEntry_unmet {e : Entry} {s : State} (unmet : guardMet e.body s = false) : applyEntry e s = s :=
  if_neg (by simp [unmet])

/-- The actions, each with the level and the pulse that it leaves (R84 to R86). -/
theorem apply_cases (r : Line) (a : Action) (run : Count) :
    (a = .setHigh → r.apply a run = { r with level := .high, pulse := none })
    ∧ (a = .setLow → r.apply a run = { r with level := .low, pulse := none })
    ∧ (a = .release → r.apply a run = { r with level := .float, pulse := none })
    ∧ (a = .toggle → r.apply a run = { r with
        level := if r.level = .high then .low else if r.level = .low then .high else .float, pulse := none })
    ∧ (∀ v w, a = .pulse v w → r.apply a run = { r with
        level := if v = .high then .high else .low,
        pulse := some { endAt := run + w.setWidth 48, returnLevel := r.level } }) := by
  refine ⟨by rintro rfl; rfl, by rintro rfl; rfl, by rintro rfl; rfl, ?_, ?_⟩
  · rintro rfl
    obtain ⟨lease, level, pulse, waiters⟩ := r
    cases level <;> rfl
  · rintro v w rfl
    cases v <;> rfl

/-- Settles O8: the action reaches the entry's own line where the guard is met, and bringing the entry forward
touches none. -/
theorem occurrenceActsOnTheLine : Obligations.OccurrenceActsOnTheLine := by
  intro k s e held
  refine ⟨fun normal due guard => ⟨_, exec_occurrence k s, fun l other => ?_, ?_⟩,
    fun g normal due guard unmet => ⟨_, exec_occurrence k s, ?_⟩, fun early => ?_⟩
  · have met := (guardMet_iff e.body s).mpr guard
    rw [takeOccurrence_due held normal due, line_eq_of_lines (lines_advanceEntry ..), applyEntry_met met,
      line_setLine, if_neg fun same => other same.symm]
  · have met := (guardMet_iff e.body s).mpr guard
    rw [takeOccurrence_due held normal due, line_eq_of_lines (lines_advanceEntry ..), applyEntry_met met,
      line_setLine, if_pos rfl]
    exact apply_cases _ _ _
  · have skipped : guardMet e.body s = false := by
      rw [← Bool.not_eq_true, guardMet_iff]
      exact fun all => unmet (all g guard)
    rw [takeOccurrence_due held normal due, lines_advanceEntry, applyEntry_unmet skipped]
  · exact congrArg Host.Outcome.next (takeOccurrence_early held early)

end Sys2Proof.Machine
end

section
/-!
PROOF. What an occurrence and the resolution of a late entry report and leave of the entry (R71 to R75, R81, R87 to
R90).
-/

namespace Sys2Proof.Machine

/-! ## Entries brought forward, by their repeat -/

theorem Entry.advanced_single {e : Entry} (single : e.body.rep = none) (n : Nat) : e.advanced n = none := by
  rw [Entry.advanced, consume, single]
  rfl

theorem Entry.advanced_unlimited {e : Entry} {r : Repeat} (rep : e.body.rep = some r)
    (unlimited : r.count = .unlimited) (n : Nat) :
    e.advanced n = some { e with body := { e.body with
      due := e.body.due + BitVec.ofNat 48 (n * r.period.toNat) } } := by
  rw [Entry.advanced, consume, rep]
  dsimp only
  rw [unlimited]
  dsimp only
  rw [← rep]
  rfl

theorem Entry.advanced_exhausted {e : Entry} {r : Repeat} {m n : Nat} (rep : e.body.rep = some r)
    (times : r.count = .times m) (few : m ≤ n) : e.advanced n = none := by
  rw [Entry.advanced, consume, rep]
  dsimp only
  rw [times]
  dsimp only
  rw [if_pos few]
  rfl

theorem Entry.advanced_times {e : Entry} {r : Repeat} {m n : Nat} (rep : e.body.rep = some r)
    (times : r.count = .times m) (more : n < m) :
    e.advanced n = some { e with body := { e.body with
      due := e.body.due + BitVec.ofNat 48 (n * r.period.toNat),
      rep := some { r with count := .times (m - n) } } } := by
  rw [Entry.advanced, consume, rep]
  dsimp only
  rw [times]
  dsimp only
  rw [if_neg (by omega)]
  rfl

/-- The occurrences that remain to an entry, none where it is gone (R90). -/
def remainingOf (left : Option Entry) : RepeatCount :=
  match left.bind fun f => f.body.rep with
  | some r => r.count
  | none => .times 0

/-- The remaining count that FIRED reports is that of the entry brought forward (R90). -/
theorem remaining_advanced (e : Entry) (n : Nat) : (consume e.body n).2 = remainingOf (e.advanced n) := by
  cases rep : e.body.rep with
  | none =>
    rw [Entry.advanced_single rep, consume, rep]
    rfl
  | some r =>
    cases count : r.count with
    | unlimited =>
      rw [Entry.advanced_unlimited rep count, consume, rep]
      dsimp only
      rw [count, remainingOf, Option.bind_some, rep]
      exact count.symm
    | times m =>
      by_cases few : m ≤ n
      · rw [Entry.advanced_exhausted rep count few, consume, rep]
        dsimp only
        rw [count]
        dsimp only
        rw [if_pos few]
        rfl
      · rw [Entry.advanced_times rep count (by omega), consume, rep]
        dsimp only
        rw [count]
        dsimp only
        rw [if_neg few]
        rfl

/-- The last occurrence is the one that leaves nothing of the entry (R90). -/
theorem isNone_consume (e : Entry) (n : Nat) : (consume e.body n).1.isNone = decide (e.advanced n = none) := by
  cases left : (consume e.body n).1 with
  | none => simp [Entry.advanced, left]
  | some b => simp [Entry.advanced, left]

/-! ## What is reported -/

/-- FIRED is posted as notify asks: `left` is what is left of the entry (R75, R90). -/
def Reported (e : Entry) (outcome : FireOutcome) (left : Option Entry) (s t : State) : Prop :=
  (e.body.notify = .none ∨ (e.body.notify = .last ∧ ¬left = none) → t.clients = s.clients)
    ∧ (e.body.notify = .each ∨ (e.body.notify = .last ∧ left = none) →
        t.clients = (postNotice e.owner .fired e.handle
          (.fired outcome (remainingOf left) (decide (left = none))) e.body.tag s).clients)

theorem clients_postFired (e : Entry) (outcome : FireOutcome) (n : Nat) (s u : State)
    (clients : u.clients = s.clients) (run : u.run = s.run) :
    Reported e outcome (e.advanced n) s
      (postFired e outcome (consume e.body n).2 (consume e.body n).1.isNone u) := by
  have posted := clients_postNotice_congr e.owner .fired e.handle
    (.fired outcome (remainingOf (e.advanced n)) (decide (e.advanced n = none))) e.body.tag s u clients run
  rw [remaining_advanced, isNone_consume]
  unfold Reported postFired
  cases e.body.notify with
  | none => exact ⟨fun _ => clients, fun h => by simp at h⟩
  | each => exact ⟨fun h => by simp at h, fun _ => posted⟩
  | last =>
    by_cases last : e.advanced n = none
    · refine ⟨fun h => by simp [last] at h, fun _ => ?_⟩
      dsimp only
      rw [if_pos (by simp [last])]
      exact posted
    · refine ⟨fun _ => ?_, fun h => by simp [last] at h⟩
      dsimp only
      rw [if_neg (by simp [last])]
      exact clients

/-- An entry that is brought forward or removed is reported (R87, R90). -/
theorem advanceEntry_reported (k : SlotId) (e : Entry) (n : Nat) (outcome : FireOutcome) {s u : State}
    (clients : u.clients = s.clients) (run : u.run = s.run) :
    Reported e outcome (e.advanced n) s (advanceEntry k e n outcome u) :=
  clients_postFired e outcome n s _ clients run

/-- WITHDRAWN is posted unless notify is NONE (R74, R76). -/
theorem clients_postWithdrawn (e : Entry) (reason : WithdrawReason) {s u : State}
    (clients : u.clients = s.clients) (run : u.run = s.run) :
    (e.body.notify = .none → (postWithdrawn e reason u).clients = s.clients)
    ∧ (e.body.notify ≠ .none → (postWithdrawn e reason u).clients
        = (postNotice e.owner .withdrawn e.handle (.withdrawn reason) e.body.tag s).clients) := by
  have posted := clients_postNotice_congr e.owner .withdrawn e.handle (.withdrawn reason) e.body.tag s u clients run
  unfold postWithdrawn
  cases e.body.notify with
  | none => exact ⟨fun _ => clients, fun h => absurd rfl h⟩
  | each => exact ⟨by rintro ⟨⟩, fun _ => posted⟩
  | last => exact ⟨by rintro ⟨⟩, fun _ => posted⟩

/-! ## What is left as it was -/

/-- Nothing but lines, slots and clients differ. -/
def OnlyCalendar (s t : State) : Prop := t = { s with lines := t.lines, slots := t.slots, clients := t.clients }

theorem OnlyCalendar.of_onlyNotices {s t : State} (ls : Vector Line 8) (ks : Vector (Option Entry) 64)
    (h : OnlyNotices { s with lines := ls, slots := ks } t) : OnlyCalendar s t := by
  obtain ⟨vs, rfl, -⟩ := h
  rfl

theorem applyEntry_eq (e : Entry) (s : State) : ∃ ls, applyEntry e s = { s with lines := ls } := by
  unfold applyEntry
  split
  · exact ⟨_, rfl⟩
  · exact ⟨s.lines, rfl⟩

theorem advanceEntry_onlyCalendar (k : SlotId) (e : Entry) (n : Nat) (outcome : FireOutcome) {s u : State}
    {ls : Vector Line 8} (before : u = { s with lines := ls }) : OnlyCalendar s (advanceEntry k e n outcome u) := by
  subst before
  exact .of_onlyNotices ls _ (postFired_onlyNotices ..)

/-! ## Occurrences -/

theorem onTimeOutcome_eq (e : Entry) (s : State) :
    onTimeOutcome e s
      = if guardMet e.body s = false then .guardSkipped
        else if e.body.action = .toggle ∧ (s.line e.body.line).level = .float then .ineffective
        else .done := by
  unfold onTimeOutcome Line.ineffective
  cases guardMet e.body s
  · rfl
  · simp only [if_true, Bool.true_eq_false, if_false, Bool.and_eq_true, beq_iff_eq]

/-- The due of an entry one period on. -/
theorem ofNat_one_mul_toNat (p : BitVec 32) : BitVec.ofNat 48 (1 * p.toNat) = p.setWidth 48 := by
  rw [Nat.one_mul]
  bv_omega

/-- Settles O9: what is left in the slot is the entry brought forward by one period, and the report follows from
it. -/
theorem occurrenceAdvancesAndReports : Obligations.OccurrenceAdvancesAndReports := by
  intro k s e held normal due
  have taken := takeOccurrence_due held normal due
  obtain ⟨ls, applied⟩ := applyEntry_eq e s
  have left : (takeOccurrence k s).slot k = e.advanced 1 := by rw [taken, slot_advanceEntry, if_pos rfl]
  refine ⟨_, exec_occurrence k s, ?_, fun m other => ?_, fun single => ?_, fun r rep once => ?_,
    fun r rep unlimited => ?_, fun r n rep times => ?_, ?_⟩
  · rw [taken]
    exact advanceEntry_onlyCalendar k e 1 _ applied
  · rw [slot_takeOccurrence, if_neg fun same => other same.symm]
  · rw [left, Entry.advanced_single single]
  · rw [left, Entry.advanced_exhausted rep once le_rfl]
  · rw [left, Entry.advanced_unlimited rep unlimited, ofNat_one_mul_toNat]
  · rw [left, Entry.advanced_times rep times (by omega), ofNat_one_mul_toNat]
    rfl
  · have reported : Reported e (onTimeOutcome e s) (e.advanced 1) s (takeOccurrence k s) := by
      rw [taken]
      exact advanceEntry_reported k e 1 _ (by rw [applied]) (by rw [applied])
    rw [onTimeOutcome_eq] at reported
    rw [left]
    exact reported

/-! ## Late resolutions -/

section
variable {k : SlotId} {s : State} {e : Entry} (held : s.slot k = some e)
  (behind : isBehind e.body.due s.timebase = true)
include held behind

theorem resolveEntry_withdraw (late : e.body.late = .withdraw) :
    resolveEntry k s = postWithdrawn e .late (s.setSlot k none) := by
  unfold resolveEntry
  rw [held]
  dsimp only
  rw [if_pos behind, late]

theorem resolveEntry_skip (late : e.body.late = .skip) :
    resolveEntry k s = advanceEntry k e (missedOccurrences e.body s.timebase) .lateSkipped s := by
  unfold resolveEntry
  rw [held]
  dsimp only
  rw [if_pos behind, late]

theorem resolveEntry_fireLate (late : e.body.late = .fireLate) :
    resolveEntry k s = advanceEntry k e (missedOccurrences e.body s.timebase)
      (if guardMet e.body s then .lateFired else .guardSkipped) (applyEntry e s) := by
  unfold resolveEntry
  rw [held]
  dsimp only
  rw [if_pos behind, late]

/-- A late entry that is not withdrawn is brought forward, reported, and its line left as it was or acted on (R72,
R73). -/
theorem resolveEntry_advances (late : e.body.late ≠ .withdraw) :
    ∃ outcome u, resolveEntry k s = advanceEntry k e (missedOccurrences e.body s.timebase) outcome u
      ∧ (u = s ∨ u = applyEntry e s)
      ∧ outcome = if e.body.late = .skip then .lateSkipped
          else if guardMet e.body s = true then .lateFired else .guardSkipped := by
  cases policy : e.body.late with
  | skip => exact ⟨_, s, resolveEntry_skip held behind policy, .inl rfl, rfl⟩
  | fireLate => exact ⟨_, _, resolveEntry_fireLate held behind policy, .inr rfl, rfl⟩
  | withdraw => exact absurd policy late

/-- A late entry that is not withdrawn is reported as it is brought forward (R75, R90). -/
theorem resolveEntry_reported (late : e.body.late ≠ .withdraw) :
    (resolveEntry k s).slot k = e.advanced (missedOccurrences e.body s.timebase)
    ∧ Reported e (if e.body.late = .skip then .lateSkipped
          else if guardMet e.body s = true then .lateFired else .guardSkipped)
        (e.advanced (missedOccurrences e.body s.timebase)) s (resolveEntry k s) := by
  obtain ⟨outcome, u, resolved, before, rfl⟩ := resolveEntry_advances held behind late
  obtain ⟨ls, applied⟩ := applyEntry_eq e s
  have same : u.clients = s.clients ∧ u.run = s.run := by
    rcases before with rfl | rfl
    · exact ⟨rfl, rfl⟩
    · rw [applied]
      exact ⟨rfl, rfl⟩
  rw [resolved, slot_advanceEntry, if_pos rfl]
  exact ⟨rfl, advanceEntry_reported k e _ _ same.1 same.2⟩

/-- A late resolution of one entry leaves all but lines, slots and clients as it was. -/
theorem resolveEntry_onlyCalendar : OnlyCalendar s (resolveEntry k s) := by
  by_cases late : e.body.late = .withdraw
  · rw [resolveEntry_withdraw held behind late]
    exact .of_onlyNotices s.lines _ (postWithdrawn_onlyNotices ..)
  · obtain ⟨outcome, u, resolved, before, -⟩ := resolveEntry_advances held behind late
    rw [resolved]
    rcases before with rfl | rfl
    · exact advanceEntry_onlyCalendar k e _ outcome (ls := u.lines) rfl
    · obtain ⟨ls, applied⟩ := applyEntry_eq e s
      exact advanceEntry_onlyCalendar k e _ outcome applied

/-- Only FIRE_LATE with the guard met or absent acts on the line (R72 to R74). -/
theorem resolveEntry_lines :
    (e.body.late = .withdraw ∨ e.body.late = .skip ∨ e.body.late = .fireLate ∧ guardMet e.body s = false →
      (resolveEntry k s).lines = s.lines)
    ∧ (e.body.late = .fireLate → guardMet e.body s = true →
        (resolveEntry k s).line e.body.line = (s.line e.body.line).apply e.body.action s.run
        ∧ ∀ l, l ≠ e.body.line → (resolveEntry k s).line l = s.line l) := by
  constructor
  · rintro (withdrawn | skipped | ⟨late, unmet⟩)
    · obtain ⟨vs, posted, -⟩ := postWithdrawn_onlyNotices e .late (s.setSlot k none)
      rw [resolveEntry_withdraw held behind withdrawn, posted]
      rfl
    · rw [resolveEntry_skip held behind skipped, lines_advanceEntry]
    · rw [resolveEntry_fireLate held behind late, lines_advanceEntry, applyEntry_unmet unmet]
  · intro late met
    rw [resolveEntry_fireLate held behind late]
    refine ⟨?_, fun l other => ?_⟩
    · rw [line_eq_of_lines (lines_advanceEntry ..), applyEntry_met met, line_setLine, if_pos rfl]
    · rw [line_eq_of_lines (lines_advanceEntry ..), applyEntry_met met, line_setLine,
        if_neg fun same => other same.symm]

end

/-- Settles O10: policy by policy. -/
theorem lateEntryResolvedByPolicy : Obligations.LateEntryResolvedByPolicy := by
  refine ⟨fun b r count rep period behind => missedOccurrences_spec b r count rep period behind,
    fun k s e held behind => ?_⟩
  obtain ⟨unmoved, acted⟩ := resolveEntry_lines held behind
  refine ⟨resolveEntry_onlyCalendar held behind, fun m other => ?_, fun withdrawn => ⟨?_, ?_, ?_⟩,
    fun rest => unmoved (.inr rest), acted, fun late => ?_⟩
  · rw [slot_resolveEntry, if_neg fun same => other same.symm]
  · rw [slot_resolveEntry, if_pos rfl, held, Option.bind_some, Entry.afterLate, if_pos behind, withdrawn]
  · exact unmoved (.inl withdrawn)
  · rw [resolveEntry_withdraw held behind withdrawn]
    exact clients_postWithdrawn e .late rfl rfl
  · obtain ⟨left, reported⟩ := resolveEntry_reported held behind late
    refine ⟨fun single => left.trans (Entry.advanced_single single _),
      fun r rep unlimited => left.trans (Entry.advanced_unlimited rep unlimited _),
      fun r n rep times => ⟨fun few => left.trans (Entry.advanced_exhausted rep times few),
        fun more => left.trans (Entry.advanced_times rep times more)⟩, ?_⟩
    rw [left]
    exact reported

end Sys2Proof.Machine
end

section
/-!
PROOF. The late resolution of one event: what it takes, in which order, and what it leaves (R59, R69, R70, R91).
-/

namespace Sys2Proof.Machine

/-! ## What is spared -/

/-- Each event of a sequence spares what it would have to touch an entry of a kind for. -/
theorem foldl_spares {α : Type} {f : State → SlotId → State} (get : State → α) (kind : Entry → Prop)
    (kinds : ∀ e e', SameBooking e e' → kind e' → kind e) (from_ : ∀ u k, EntriesFrom u (f u k))
    (spares : ∀ u k, (∀ e, u.slot k = some e → ¬kind e) → get (f u k) = get u) (ks : List SlotId) (s : State)
    (none : ∀ k ∈ ks, ∀ e, s.slot k = some e → ¬kind e) : get (ks.foldl f s) = get s := by
  induction ks generalizing s with
  | nil => rfl
  | cons k ks ih =>
    refine (ih (f s k) fun m mem e' stands kinded => ?_).trans (spares s k (none k List.mem_cons_self))
    obtain ⟨e, stood, same⟩ := from_ s k m e' stands
    exact none m (List.mem_cons_of_mem k mem) e stood (kinds e e' same kinded)

theorem entriesFrom_resolveEntry (k : SlotId) (s : State) : EntriesFrom s (resolveEntry k s) := by
  intro m e' stands
  rw [slot_resolveEntry] at stands
  split at stands
  · obtain ⟨e, stood, late⟩ := Option.bind_eq_some_iff.mp stands
    exact ⟨e, stood, Entry.afterLate_same late⟩
  · exact ⟨e', stands, .refl e'⟩

theorem SameBooking.line {e f : Entry} (h : SameBooking e f) : f.body.line = e.body.line := by
  rw [h]

theorem line_applyEntry_other {e : Entry} {s : State} {l : LineId} (other : e.body.line ≠ l) :
    (applyEntry e s).line l = s.line l := by
  unfold applyEntry
  split
  · rw [line_setLine, if_neg other]
  · rfl

/-- The resolution of an entry spares the lines but its own (R72). -/
theorem line_resolveEntry_other {k : SlotId} {s : State} {l : LineId}
    (other : ∀ e, s.slot k = some e → e.body.line ≠ l) : (resolveEntry k s).line l = s.line l := by
  cases held : s.slot k with
  | none =>
    rw [resolveEntry, held]
  | some e =>
    by_cases behind : isBehind e.body.due s.timebase = true
    · obtain ⟨unmoved, acted⟩ := resolveEntry_lines held behind
      by_cases acts : e.body.late = .fireLate ∧ guardMet e.body s = true
      · exact (acted acts.1 acts.2).2 l fun same => other e held same.symm
      · refine line_eq_of_lines (unmoved ?_) l
        cases late : e.body.late with
        | withdraw => exact .inl rfl
        | skip => exact .inr (.inl rfl)
        | fireLate => exact .inr (.inr ⟨rfl, by simpa [late] using acts⟩)
    · rw [resolveEntry, held]
      dsimp only
      rw [if_neg behind]

/-- An occurrence spares the lines but its own (R81). -/
theorem line_takeOccurrence_other {k : SlotId} {s : State} {l : LineId}
    (other : ∀ e, s.slot k = some e → e.body.line ≠ l) : (takeOccurrence k s).line l = s.line l := by
  unfold takeOccurrence
  split
  next e held =>
    split
    · rw [line_eq_of_lines (lines_advanceEntry ..), line_applyEntry_other (other e held)]
    · rfl
  next => rfl

/-- Bringing an entry forward spares the clients but its owner (R75). -/
theorem client_advanceEntry_other {k : SlotId} {e : Entry} {n : Nat} {outcome : FireOutcome} {s : State}
    {c : ClientId} (other : e.owner ≠ c) : (advanceEntry k e n outcome s).client c = s.client c := by
  unfold advanceEntry postFired
  dsimp only
  split
  · rfl
  · rw [client_postNotice_other _ _ _ _ _ _ _ other]
    rfl
  · split
    · rw [client_postNotice_other _ _ _ _ _ _ _ other]
      rfl
    · rfl

theorem client_postWithdrawn_other {e : Entry} {reason : WithdrawReason} {s : State} {c : ClientId}
    (other : e.owner ≠ c) : (postWithdrawn e reason s).client c = s.client c := by
  unfold postWithdrawn
  split
  · rfl
  · rw [client_postNotice_other _ _ _ _ _ _ _ other]
  · rw [client_postNotice_other _ _ _ _ _ _ _ other]

theorem client_applyEntry (e : Entry) (s : State) (c : ClientId) : (applyEntry e s).client c = s.client c := by
  obtain ⟨ls, applied⟩ := applyEntry_eq e s
  rw [applied]
  rfl

/-- The resolution of an entry spares the clients but its owner (R75). -/
theorem client_resolveEntry_other {k : SlotId} {s : State} {c : ClientId}
    (other : ∀ e, s.slot k = some e → e.owner ≠ c) : (resolveEntry k s).client c = s.client c := by
  unfold resolveEntry
  split
  next => rfl
  next e held =>
    split
    · split
      · rw [client_advanceEntry_other (other e held), client_applyEntry]
      · exact client_advanceEntry_other (other e held)
      · rw [client_postWithdrawn_other (other e held)]
        rfl
    · rfl

/-- An occurrence spares the clients but the entry's owner (R90). -/
theorem client_takeOccurrence_other {k : SlotId} {s : State} {c : ClientId}
    (other : ∀ e, s.slot k = some e → e.owner ≠ c) : (takeOccurrence k s).client c = s.client c := by
  unfold takeOccurrence
  split
  next e held =>
    split
    · rw [client_advanceEntry_other (other e held), client_applyEntry]
    · rfl
  next => rfl

/-! ## The parts of a late resolution -/

/-- An entry that a late resolution touches: it is behind the count, or at it (R69, R70). -/
def Touched (s : State) (e : Entry) : Prop :=
  isBehind e.body.due s.timebase = true ∨ e.body.due = s.timebase

/-- The slots of the occurrences at distance 0, in the order in which they are taken (R70, log 22). -/
def State.dueSlots (s : State) : List SlotId :=
  freeOrder s.freeCount ((s.entries.filter fun p => isDue p.2 s).map Prod.fst)

theorem mem_dueSlots (s : State) (k : SlotId) :
    k ∈ s.dueSlots ↔ s.supplyState = .normal ∧ ∃ e, s.slot k = some e ∧ e.body.due = s.timebase := by
  rw [State.dueSlots, (freeOrder_perm _ _).mem_iff, mem_pickedSlots (.refl s.entries) fun e => isDue e s]
  simp only [isDue_iff]
  exact ⟨fun ⟨e, stands, normal, due⟩ => ⟨normal, e, stands, due⟩,
    fun ⟨normal, e, stands, due⟩ => ⟨e, stands, normal, due⟩⟩

theorem dueSlots_nodup (s : State) : s.dueSlots.Nodup :=
  (freeOrder_perm _ _).nodup_iff.mpr (pickedSlots_nodup (.refl s.entries) fun e => isDue e s)

/-- The occurrences at distance 0 are taken one after the other, and use free values for their order. -/
theorem takeDueOccurrences_eq (s : State) :
    ∃ free, takeDueOccurrences s = s.dueSlots.foldl (fun u k => takeOccurrence k u) { s with freeCount := free } :=
  ⟨_, rfl⟩

/-- Of two late entries in due order the first is further behind, or stands at the same due with a lower handle
(R59). -/
theorem dueBefore_late {count : Count} {e f : Entry} (before : dueBefore count e f = true)
    (behind : isBehind e.body.due count = true) (behind' : isBehind f.body.due count = true) :
    distanceAhead count f.body.due < distanceAhead count e.body.due
      ∨ e.body.due = f.body.due ∧ e.handle.toNat ≤ f.handle.toNat := by
  rw [isBehind, Bool.not_eq_true'] at behind behind'
  simp only [dueBefore, signedDistance, behind, behind', Bool.false_eq_true, if_false, Bool.or_eq_true,
    Bool.and_eq_true, decide_eq_true_eq, beq_iff_eq] at before
  rcases before with further | ⟨level, lower⟩
  · exact .inl (by omega)
  · refine .inr ⟨?_, lower⟩
    have same : distanceAhead count e.body.due = distanceAhead count f.body.due := by omega
    exact sub_right_injective (BitVec.eq_of_toNat_eq same)

/-- The late entries are taken in due order (R59, R69). -/
theorem lateSlots_ordered (s : State) :
    s.lateSlots.Pairwise fun k m => ∀ e f, s.slot k = some e → s.slot m = some f →
      distanceAhead s.timebase f.body.due < distanceAhead s.timebase e.body.due
      ∨ e.body.due = f.body.due ∧ e.handle.toNat ≤ f.handle.toNat := by
  have sorted := (sortByDue_sorted s.timebase s.entries).filter fun p => isBehind p.2.body.due s.timebase
  refine List.pairwise_map.mpr (sorted.imp_of_mem fun {p q} memP memQ before e f stands stands' => ?_)
  obtain ⟨memP, behind⟩ := List.mem_filter.mp memP
  obtain ⟨memQ, behind'⟩ := List.mem_filter.mp memQ
  have own := (mem_entries s p).mp ((sortByDue_perm ..).mem_iff.mp memP)
  have own' := (mem_entries s q).mp ((sortByDue_perm ..).mem_iff.mp memQ)
  obtain rfl := Option.some.inj (own.symm.trans stands)
  obtain rfl := Option.some.inj (own'.symm.trans stands')
  exact dueBefore_late before behind behind'

/-- What the occurrences at distance 0 after the late entries are of: entries that the resolution touches (R70). -/
theorem touched_of_due {s : State} {k : SlotId} (due : k ∈ (lateResolved s).dueSlots) {e : Entry}
    (stood : s.slot k = some e) : Touched s e := by
  obtain ⟨-, e', stands, atCount⟩ := (mem_dueSlots ..).mp due
  rw [slot_lateResolved, stood, Option.bind_some] at stands
  rw [(lateResolved_moved s).timebase] at atCount
  by_cases behind : isBehind e.body.due s.timebase = true
  · exact .inl behind
  · rw [Entry.afterLate, if_neg behind] at stands
    obtain rfl := Option.some.inj stands
    exact .inr atCount

/-- A late resolution spares what it would have to touch an entry of a kind for. -/
theorem resolveLate_spares {α : Type} (get : State → α) (kind : Entry → Prop)
    (kinds : ∀ e e', SameBooking e e' → kind e' → kind e) (free : ∀ u n, get { u with freeCount := n } = get u)
    (resolves : ∀ u k, (∀ e, u.slot k = some e → ¬kind e) → get (resolveEntry k u) = get u)
    (takes : ∀ u k, (∀ e, u.slot k = some e → ¬kind e) → get (takeOccurrence k u) = get u) {s : State}
    (none : ∀ k e, s.slot k = some e → kind e → ¬Touched s e) : get (resolveLate s) = get s := by
  obtain ⟨n, taken⟩ := takeDueOccurrences_eq (lateResolved s)
  have late : get (lateResolved s) = get s := by
    refine foldl_spares get kind kinds (fun u k => entriesFrom_resolveEntry k u) resolves _ s ?_
    intro k mem e stood kinded
    obtain ⟨e', stood', behind⟩ := (mem_lateSlots s k).mp mem
    obtain rfl := Option.some.inj (stood.symm.trans stood')
    exact none k e stood kinded (.inl behind)
  rw [resolveLate_eq, taken]
  refine (foldl_spares get kind kinds (fun u k => entriesFrom_takeOccurrence k u) takes _ _ ?_).trans
    ((free _ n).trans late)
  intro k mem e' stands kinded
  have stands' : (lateResolved s).slot k = some e' := stands
  rw [slot_lateResolved] at stands'
  obtain ⟨e, stood, left⟩ := Option.bind_eq_some_iff.mp stands'
  exact none k e stood (kinds e e' (Entry.afterLate_same left) kinded) (touched_of_due mem stood)

/-- A late resolution leaves the entries that it does not touch. -/
theorem slot_resolveLate_untouched {s : State} {k : SlotId} {e : Entry} (stood : s.slot k = some e)
    (untouched : ¬Touched s e) : (resolveLate s).slot k = some e := by
  rw [slot_resolveLate, stood, Option.bind_some, Entry.afterLate, if_neg fun h => untouched (.inl h),
    Option.bind_some, Entry.afterDue, if_neg fun h => untouched (.inr h.2)]

theorem isBehind_eq_false_iff (due count : Count) :
    isBehind due count = false ↔ distanceAhead due count < 2 ^ 47 := by
  rw [isBehind, Bool.not_eq_false', isAhead, decide_eq_true_iff, Config.halfRange]

/-- A late resolution outside a hold leaves nothing behind the count or at it (R59, R70). -/
theorem resolveLate_leaves_nothing {s : State} (named : EntriesNamed s) (normal : s.supplyState = .normal)
    {k : SlotId} {e' : Entry} (stands : (resolveLate s).slot k = some e') :
    isBehind e'.body.due s.timebase = false ∧ e'.body.due ≠ s.timebase := by
  rw [slot_resolveLate, normal, Option.bind_assoc] at stands
  obtain ⟨e, stood, left⟩ := Option.bind_eq_some_iff.mp stands
  have periodic := ((entriesNamed_iff s).mp named k e stood).periodic
  obtain ⟨within, off⟩ := afterResolution (bound := 2 ^ 47 - 1) periodic (by norm_num)
    (fun ahead => Nat.le_sub_one_of_lt ((isBehind_eq_false_iff ..).mp ahead)) left
  exact ⟨(isBehind_eq_false_iff ..).mpr (by omega), off rfl⟩

/-- Settles O11: slot by slot, and for the lines and the clients through the entries that are touched. -/
theorem lateResolutionLeavesNothingBehind : Obligations.LateResolutionLeavesNothingBehind := by
  refine ⟨fun k s => exec_occurrence k s, fun s => ?_⟩
  obtain ⟨free, taken⟩ := takeDueOccurrences_eq (lateResolved s)
  have moved := lateResolved_moved s
  refine ⟨⟨s.lateSlots, (lateResolved s).dueSlots, free, lateSlots_nodup s, mem_lateSlots s, lateSlots_ordered s,
      dueSlots_nodup _, fun k => ?_, taken⟩, ?_, fun k e stood => slot_resolveLate_untouched stood,
    fun k none => ?_, fun l none => ?_, fun c none => ?_, fun named normal k e' => resolveLate_leaves_nothing named normal⟩
  · rw [mem_dueSlots, moved.supplyState, moved.timebase]
    rfl
  · obtain ⟨ls, ks, n, vs, same, -⟩ := resolveLate_moved s
    rw [same]
  · rw [slot_resolveLate, none]
    rfl
  · exact resolveLate_spares (·.line l) (·.body.line = l) (fun e e' same on => same.line.symm.trans on)
      (fun _ _ => rfl) (fun u k => line_resolveEntry_other) (fun u k => line_takeOccurrence_other) none
  · exact resolveLate_spares (·.client c) (·.owner = c) (fun e e' same own => same.owner.symm.trans own)
      (fun _ _ => rfl) (fun u k => client_resolveEntry_other) (fun u k => client_takeOccurrence_other) none

end Sys2Proof.Machine
end

section
/-!
PROOF. The postings of notices, by the queue (R126); and that the later postings of one event stand behind the first.
-/

namespace Sys2Proof.Machine

/-! ## One posting -/

/-- A posting is merged into the one record with its key (R126). -/
theorem postInto_merge {run : Count} {kind : NoticeKind} {subject : BitVec 16} {detail : NoticeDetail}
    {tag : BitVec 16} {older newer : List Notice} {n : Notice} (key : n.hasKey kind subject = true)
    (others : ∀ m ∈ older ++ newer, Notice.hasKey kind subject m = false) :
    postInto run kind subject detail tag (older ++ n :: newer)
      = (older ++ { n with repeats := min (n.repeats + 1) 255, detail := detail, tag := tag } :: newer, false) := by
  have same : ∀ l : List Notice, (∀ m ∈ l, Notice.hasKey kind subject m = false) →
      l.map (fun n => if n.hasKey kind subject then
          { n with repeats := min (n.repeats + 1) 255, detail := detail, tag := tag } else n) = l := by
    intro l none
    refine (List.map_congr_left fun m mem => ?_).trans (List.map_id l)
    rw [if_neg (by simp [none m mem])]
    rfl
  rw [postInto, if_pos (by simp [key]), List.map_append, List.map_cons, if_pos key,
    same older fun m mem => others m (List.mem_append_left _ mem),
    same newer fun m mem => others m (List.mem_append_right _ mem)]

/-- With no record of its key a posting is appended while fewer than 12 are held (R126). -/
theorem postInto_append {run : Count} {kind : NoticeKind} {subject : BitVec 16} {detail : NoticeDetail}
    {tag : BitVec 16} {q : List Notice} (fresh : ∀ m ∈ q, Notice.hasKey kind subject m = false)
    (room : q.length < 12) :
    postInto run kind subject detail tag q
      = (q ++ [{ kind := kind, subject := subject, detail := detail, tag := tag, first := run, repeats := 1 }],
          false) := by
  rw [postInto, if_neg (by simpa using fresh)]
  exact if_pos room

/-- With no record of its key and 12 held a posting is lost (R126). -/
theorem postInto_full {run : Count} {kind : NoticeKind} {subject : BitVec 16} {detail : NoticeDetail}
    {tag : BitVec 16} {q : List Notice} (fresh : ∀ m ∈ q, Notice.hasKey kind subject m = false)
    (full : 12 ≤ q.length) : postInto run kind subject detail tag q = (q, true) := by
  rw [postInto, if_neg (by simpa using fresh)]
  exact if_neg (not_lt.mpr full)

/-- A client's record after a posting to it while OPEN (R126). -/
def Client.posted (run : Count) (kind : NoticeKind) (subject : BitVec 16) (detail : NoticeDetail)
    (tag : BitVec 16) (r : Client) : Client :=
  { r with notices := (postInto run kind subject detail tag r.notices).1,
           lost := r.lost || (postInto run kind subject detail tag r.notices).2 }

section
variable (c : ClientId) (kind : NoticeKind) (subject : BitVec 16) (detail : NoticeDetail) (tag : BitVec 16)

theorem postNotice_closed {s : State} (closed : s.isOpen c = false) : postNotice c kind subject detail tag s = s :=
  if_neg (by simp [closed])

theorem postNotice_opened {s : State} (opened : s.isOpen c = true) :
    postNotice c kind subject detail tag s
      = s.setClient c ((s.client c).posted s.run kind subject detail tag) := if_pos opened

theorem client_postNotice_self (s : State) :
    (postNotice c kind subject detail tag s).client c
      = if s.isOpen c then (s.client c).posted s.run kind subject detail tag else s.client c := by
  cases isOpen : s.isOpen c
  · rw [postNotice_closed c kind subject detail tag isOpen]
    rfl
  · rw [postNotice_opened c kind subject detail tag isOpen, client_setClient, if_pos rfl]
    rfl

/-- A posting depends on the client's record and the run count only. -/
theorem client_postNotice_congr {s t : State} (client : t.client c = s.client c) (run : t.run = s.run) :
    (postNotice c kind subject detail tag t).client c = (postNotice c kind subject detail tag s).client c := by
  rw [client_postNotice_self, client_postNotice_self, State.isOpen, State.isOpen, client, run]

end

theorem OnlyNotices.run {s t : State} (h : OnlyNotices s t) : t.run = s.run := by
  obtain ⟨vs, rfl, -⟩ := h
  rfl

/-! ## Postings to every OPEN client -/

/-- A posting to some clients in turn makes the same posting to each. -/
theorem client_foldl_postNotice (kind : NoticeKind) (detail : NoticeDetail) (cs : List ClientId)
    (distinct : cs.Nodup) (s : State) (c : ClientId) :
    (cs.foldl (fun s c => postNotice c kind 0 detail 0 s) s).client c
      = if c ∈ cs then (postNotice c kind 0 detail 0 s).client c else s.client c := by
  induction cs generalizing s with
  | nil => rfl
  | cons d cs ih =>
    obtain ⟨outside, distinct⟩ := List.nodup_cons.mp distinct
    rw [List.foldl_cons, ih distinct]
    by_cases same : d = c
    · subst same
      rw [if_neg outside, if_pos List.mem_cons_self]
    · have client := client_postNotice_other d c kind 0 detail 0 s same
      have run := (postNotice_onlyNotices d kind 0 detail 0 s).run
      have other : c ≠ d := fun h => same h.symm
      rw [client_postNotice_congr c kind 0 detail 0 client run, client]
      simp [other]

theorem client_postAll (kind : NoticeKind) (detail : NoticeDetail) (s : State) (c : ClientId) :
    (postAll kind detail s).client c = (postNotice c kind 0 detail 0 s).client c := by
  rw [postAll, client_foldl_postNotice _ _ _ (by decide), if_pos]
  exact List.mem_finRange c

/-- Settles O29: the three ways of a posting into a queue, and a posting to all made client by client. -/
theorem noticePostingRules : Obligations.NoticePostingRules := by
  refine ⟨fun c kind subject detail tag s => ⟨postNotice_closed c kind subject detail tag, fun opened => ?_⟩,
    client_postAll⟩
  have posted := postNotice_opened c kind subject detail tag opened
  refine ⟨fun older n newer queue key others => ?_, fun fresh room => ?_, fun fresh full => ?_⟩
  · rw [posted, Client.posted, queue, postInto_merge key others, Bool.or_false]
  · rw [posted, Client.posted, postInto_append fresh room, Bool.or_false]
  · rw [posted, Client.posted, postInto_full fresh full, Bool.or_true]

/-! ## The head of a queue -/

/-- A queue begins with some records. -/
def Heads (first : List Notice) (s : State) (c : ClientId) : Prop := ∃ rest, (s.client c).notices = first ++ rest

/-- Records of other kinds stay at the head of a queue into which a notice is posted. -/
theorem postInto_heads {first rest : List Notice} {run : Count} {kind : NoticeKind} {subject : BitVec 16}
    {detail : NoticeDetail} {tag : BitVec 16} (others : ∀ n ∈ first, n.kind ≠ kind) :
    ∃ rest', (postInto run kind subject detail tag (first ++ rest)).1 = first ++ rest' := by
  unfold postInto
  split
  · refine ⟨rest.map fun n => if n.hasKey kind subject then
      { n with repeats := min (n.repeats + 1) 255, detail := detail, tag := tag } else n, ?_⟩
    rw [List.map_append]
    refine congrArg (· ++ _) ((List.map_congr_left fun n mem => ?_).trans (List.map_id first))
    rw [if_neg (by simp [Notice.hasKey, others n mem])]
    rfl
  · split
    · exact ⟨_, List.append_assoc ..⟩
    · exact ⟨rest, rfl⟩

theorem Heads.postNotice {first : List Notice} {s : State} {c : ClientId} (h : Heads first s c) (d : ClientId)
    {kind : NoticeKind} {subject : BitVec 16} {detail : NoticeDetail} {tag : BitVec 16}
    (others : ∀ n ∈ first, n.kind ≠ kind) : Heads first (postNotice d kind subject detail tag s) c := by
  obtain ⟨rest, queue⟩ := h
  by_cases same : d = c
  · subst same
    rw [Heads, client_postNotice_self]
    split
    · rw [Client.posted, queue]
      exact postInto_heads others
    · exact ⟨rest, queue⟩
  · rw [Heads, client_postNotice_other _ _ _ _ _ _ _ same]
    exact ⟨rest, queue⟩

/-- Records of which none is FIRED or WITHDRAWN. -/
def NotOfEntries (first : List Notice) : Prop := ∀ n ∈ first, n.kind ≠ .fired ∧ n.kind ≠ .withdrawn

theorem Heads.postFired {first : List Notice} {s : State} {c : ClientId} (h : Heads first s c)
    (kinds : NotOfEntries first) (e : Entry) (outcome : FireOutcome) (remaining : RepeatCount) (last : Bool) :
    Heads first (postFired e outcome remaining last s) c := by
  have posted : Heads first (Machine.postNotice e.owner .fired e.handle (.fired outcome remaining last) e.body.tag s)
      c := h.postNotice e.owner fun n mem => (kinds n mem).1
  unfold Machine.postFired
  dsimp only
  split
  · exact h
  · exact posted
  · split
    · exact posted
    · exact h

theorem Heads.postWithdrawn {first : List Notice} {s : State} {c : ClientId} (h : Heads first s c)
    (kinds : NotOfEntries first) (e : Entry) (reason : WithdrawReason) :
    Heads first (postWithdrawn e reason s) c := by
  have posted : Heads first (Machine.postNotice e.owner .withdrawn e.handle (.withdrawn reason) e.body.tag s) c :=
    h.postNotice e.owner fun n mem => (kinds n mem).2
  unfold Machine.postWithdrawn
  split
  · exact h
  · exact posted
  · exact posted

theorem Heads.of_client {first : List Notice} {s t : State} {c : ClientId} (h : Heads first s c)
    (same : t.client c = s.client c) : Heads first t c := by
  rw [Heads, same]
  exact h

theorem Heads.applyEntry {first : List Notice} {s : State} {c : ClientId} (h : Heads first s c) (e : Entry) :
    Heads first (applyEntry e s) c := h.of_client (client_applyEntry e s c)

theorem Heads.advanceEntry {first : List Notice} {s : State} {c : ClientId} (h : Heads first s c)
    (kinds : NotOfEntries first) (k : SlotId) (e : Entry) (n : Nat) (outcome : FireOutcome) :
    Heads first (advanceEntry k e n outcome s) c :=
  Heads.postFired (s := s.setSlot k _) h kinds e _ _ _

theorem Heads.takeOccurrence {first : List Notice} {s : State} {c : ClientId} (h : Heads first s c)
    (kinds : NotOfEntries first) (k : SlotId) : Heads first (takeOccurrence k s) c := by
  unfold Machine.takeOccurrence
  split
  · split
    · exact (h.applyEntry _).advanceEntry kinds _ _ _ _
    · exact h
  · exact h

theorem Heads.resolveEntry {first : List Notice} {s : State} {c : ClientId} (h : Heads first s c)
    (kinds : NotOfEntries first) (k : SlotId) : Heads first (resolveEntry k s) c := by
  unfold Machine.resolveEntry
  split
  · exact h
  · split
    · split
      · exact (h.applyEntry _).advanceEntry kinds _ _ _ _
      · exact h.advanceEntry kinds _ _ _ _
      · exact Heads.postWithdrawn (s := s.setSlot k none) h kinds _ _
    · exact h

/-- The notices of a late resolution stand behind those that its event has posted before (R75, R90). -/
theorem Heads.resolveLate {first : List Notice} {s : State} {c : ClientId} (h : Heads first s c)
    (kinds : NotOfEntries first) : Heads first (resolveLate s) c := by
  obtain ⟨free, taken⟩ := takeDueOccurrences_eq (lateResolved s)
  have late : Heads first (lateResolved s) c :=
    foldl_keeps (Heads first · c) _ _ _ (fun u k _ hu => hu.resolveEntry kinds k) h
  rw [resolveLate_eq, taken]
  exact foldl_keeps (Heads first · c) _ _ _ (fun u k _ hu => hu.takeOccurrence kinds k) late

/-- The first posting to an OPEN client with an empty queue. -/
theorem notices_posted_nil {run : Count} {kind : NoticeKind} {subject : BitVec 16} {detail : NoticeDetail}
    {tag : BitVec 16} {r : Client} (empty : r.notices = []) :
    (r.posted run kind subject detail tag).notices
      = [{ kind := kind, subject := subject, detail := detail, tag := tag, first := run, repeats := 1 }] := by
  rw [Client.posted, empty]
  rfl

end Sys2Proof.Machine
end

section
/-!
PROOF. The steps of the timebase count: what an accepted step does, and the commands that make one, SET_TIME, SHIFT and
SYNC_EDGE (R22 to R26, R30).
-/

namespace Sys2Proof.Machine

/-! ## The rows of the requests -/

/-- A command executes the request held when it is of its kind. -/
def Runs (i : Instr) (kind : Byte) (f : Request) : Prop :=
  ∀ s, exec i s = .next (runRequest (fun k => k == kind) f s)

/-- The execution of a request that is held is what the request answers. -/
theorem Runs.answers {i : Instr} {kind : Byte} {f : Request} (row : Runs i kind f) {s t : State} {j : EngineJob}
    {ps : List Byte} {status : Status} {result : List Byte} (held : Executing s j kind ps)
    (answer : f j.client ps s = (t, status, result)) : exec i s = .next (t.replied j status result) := by
  have ran : runRequest (fun k => k == kind) f s = t.replied j status result :=
    runRequest_of_answer held (beq_self_eq_true kind) answer
  rw [row, ran]

section
variable {α : Type} {c : ClientId} {s : State} {parsed : Option α} {a : α}

/-- The gate of R22 lets the authority holder pass. -/
theorem gated_holder (opened : s.isOpen c = true) (parses : parsed = some a) (holder : s.authority = some c)
    (k : α → State × Reply) : gated c parsed s k = k a := by
  rw [gated, whenOpen_withParams_some opened parses, if_pos holder]

/-- The gate of R22 stops any other client. -/
theorem gated_other (opened : s.isOpen c = true) (parses : parsed = some a) (other : s.authority ≠ some c)
    (k : α → State × Reply) : gated c parsed s k = (s, .noAuthority, []) := by
  rw [gated, whenOpen_withParams_some opened parses, if_neg other]
  rfl

theorem gated_none (opened : s.isOpen c = true) (unparsed : parsed = none) (k : α → State × Reply) :
    gated c parsed s k = (s, .invalid, []) := whenOpen_withParams_none opened unparsed _

end

/-! ## The parameters of SET_TIME and SHIFT -/

theorem parseSetTime_beBytes (v : Count) : parseSetTime (beBytes 6 v.toNat) = some v := by
  rw [parseSetTime, if_pos (length_beBytes ..), ofNat_beNat_beBytes 6 v (by norm_num)]

/-- Five bytes of which the last four are a number other than 0 are the parameters of SHIFT (R25). -/
theorem parseShift_code {code : Byte} {d : StepDirection} (named : shiftDirectionOfCode code = some d)
    {m : BitVec 32} (nonzero : m ≠ 0) : parseShift ([code] ++ beBytes 4 m.toNat) = some (d, m) := by
  have number : beNat (beBytes 4 m.toNat) = m.toNat := beNat_beBytes 4 _ (by simpa using m.isLt)
  have positive : beNat (beBytes 4 m.toNat) ≠ 0 := by
    rw [number]
    exact fun zero => nonzero (BitVec.eq_of_toNat_eq zero)
  have value := ofNat_beNat_beBytes 4 m (by norm_num)
  change (if beNat (beBytes 4 m.toNat) = 0 then none
    else (shiftDirectionOfCode code).map fun d => (d, BitVec.ofNat 32 (beNat (beBytes 4 m.toNat)))) = _
  rw [if_neg positive, named, value]
  rfl

/-! ## An accepted step -/

/-- The notice of a step (R26). -/
def shiftedDetail (old new : Count) : NoticeDetail :=
  .shifted (stepOf old new).1 (shiftedMagnitude (stepOf old new).2)

/-- An accepted step before its late resolution (R26). -/
def stepped (new : Count) (s : State) : State :=
  postAll .shifted (shiftedDetail s.timebase new) { s with timebase := new, timeState := .set }

theorem stepped_onlyNotices (new : Count) (s : State) :
    OnlyNotices { s with timebase := new, timeState := .set } (stepped new s) := postAll_onlyNotices ..

theorem stepped_supplyState (new : Count) (s : State) : (stepped new s).supplyState = s.supplyState :=
  (CalendarMoved.of_onlyNotices (stepped_onlyNotices new s)).supplyState

theorem timeStep_resolves {new : Count} {s : State} (forward : (stepOf s.timebase new).1 = .forward)
    (normal : s.supplyState = .normal) : timeStep new s = resolveLate (stepped new s) :=
  if_pos ⟨forward, (stepped_supplyState new s).trans normal⟩

theorem timeStep_only_posts {new : Count} {s : State}
    (other : (stepOf s.timebase new).1 ≠ .forward ∨ s.supplyState = .hold) : timeStep new s = stepped new s := by
  refine if_neg fun ⟨forward, normal⟩ => ?_
  rcases other with direction | hold
  · exact direction forward
  · rw [(stepped_supplyState new s).symm.trans normal] at hold
    cases hold

theorem EntriesNamed.of_onlyNotices {s t : State} (h : OnlyNotices s t) (named : EntriesNamed s) : EntriesNamed t := by
  obtain ⟨vs, rfl, -⟩ := h
  exact ⟨named.handle, named.repeats, named.width⟩

/-- A forward step outside a hold leaves no entry behind the new count or at it (R59, R69). -/
theorem timeStep_leaves_nothing {new : Count} {s : State} (named : EntriesNamed s)
    (forward : (stepOf s.timebase new).1 = .forward) (normal : s.supplyState = .normal) (k : SlotId) (e : Entry)
    (stands : (timeStep new s).slot k = some e) : isBehind e.body.due new = false ∧ e.body.due ≠ new := by
  have count : (stepped new s).timebase = new :=
    (CalendarMoved.of_onlyNotices (stepped_onlyNotices new s)).timebase
  have retimed : EntriesNamed { s with timebase := new, timeState := .set } :=
    ⟨named.handle, named.repeats, named.width⟩
  rw [timeStep_resolves forward normal] at stands
  have left := resolveLate_leaves_nothing (retimed.of_onlyNotices (stepped_onlyNotices new s))
    ((stepped_supplyState new s).trans normal) stands
  rwa [count] at left

/-- A notice with subject 0 and tag 0, as it is first posted (R126). -/
def firstNotice (kind : NoticeKind) (detail : NoticeDetail) (run : Count) : Notice :=
  { kind := kind, subject := 0, detail := detail, tag := 0, first := run, repeats := 1 }

/-- A posting to every OPEN client stands behind what an OPEN client's queue held, of other kinds (R126). -/
theorem heads_postAll {kind : NoticeKind} {detail : NoticeDetail} {s : State} {c : ClientId} {q : List Notice}
    (opened : s.isOpen c = true) (queue : (s.client c).notices = q) (others : ∀ n ∈ q, n.kind ≠ kind)
    (room : q.length < 12) : Heads (q ++ [firstNotice kind detail s.run]) (postAll kind detail s) c := by
  have fresh : ∀ m ∈ q, Notice.hasKey kind 0 m = false := fun m mem => by
    simp [Notice.hasKey, others m mem]
  refine ⟨[], ?_⟩
  rw [client_postAll, client_postNotice_self, if_pos opened, Client.posted, queue, postInto_append fresh room,
    List.append_nil]
  rfl

theorem notOfEntries_append {q : List Notice} (h : NotOfEntries q) {n : Notice}
    (kind : n.kind ≠ .fired ∧ n.kind ≠ .withdrawn) : NotOfEntries (q ++ [n]) := by
  intro m mem
  rcases List.mem_append.mp mem with old | new
  · exact h m old
  · rwa [List.mem_singleton.mp new]

/-- SHIFTED stands behind what an OPEN client's queue held, and before what the step's late resolution posts (R26). -/
theorem heads_timeStep {new : Count} {s : State} {c : ClientId} {q : List Notice} (opened : s.isOpen c = true)
    (queue : (s.client c).notices = q) (others : ∀ n ∈ q, n.kind = .sync) (room : q.length < 12) :
    Heads (q ++ [firstNotice .shifted (shiftedDetail s.timebase new) s.run]) (timeStep new s) c := by
  have posted : Heads (q ++ [firstNotice .shifted (shiftedDetail s.timebase new) s.run]) (stepped new s) c :=
    heads_postAll (s := { s with timebase := new, timeState := .set }) opened queue
      (fun n mem => by simp [others n mem]) room
  have kinds : NotOfEntries (q ++ [firstNotice .shifted (shiftedDetail s.timebase new) s.run]) :=
    notOfEntries_append (fun n mem => by simp [others n mem]) (by simp [firstNotice])
  by_cases resolves : (stepOf s.timebase new).1 = .forward ∧ s.supplyState = .normal
  · rw [timeStep_resolves resolves.1 resolves.2]
    exact posted.resolveLate kinds
  · rwa [timeStep_only_posts]
    cases supply : s.supplyState with
    | hold => exact .inr rfl
    | normal => exact .inl fun forward => resolves ⟨forward, supply⟩

theorem Heads.head? {n : Notice} {s : State} {c : ClientId} (h : Heads [n] s c) :
    (s.client c).notices.head? = some n := by
  obtain ⟨rest, queue⟩ := h
  rw [queue]
  rfl

/-! ## SET_TIME and SHIFT -/

theorem stepRequest_allowed {new : Count} {s : State} (allowed : stepAllowed new s = true) :
    stepRequest new s = (timeStep new s, .ok, stepBytes (stepOf s.timebase new)) := if_pos allowed

theorem stepRequest_refused {new : Count} {s : State} (refused : stepAllowed new s = false) :
    stepRequest new s = (s, .range, stepBytes (stepOf s.timebase new)) := if_neg (by simp [refused])

/-- A row whose request asks for a step to a count, once its checks have passed (R22, R24, R25). -/
def AsksForStep (i : Instr) (new : Count) (s : State) (j : EngineJob) : Prop :=
  (s.authority ≠ some j.client → exec i s = .next (s.replied j .noAuthority []))
  ∧ (s.authority = some j.client → ∀ t status result, stepRequest new s = (t, status, result) →
      exec i s = .next (t.replied j status result))

theorem setTime_asksForStep {s : State} {j : EngineJob} {new : Count}
    (held : Executing s j 0x53 (beBytes 6 new.toNat)) (opened : s.isOpen j.client = true) :
    AsksForStep .setTime new s j := by
  have row : Runs .setTime 0x53 requestSetTime := fun _ => rfl
  have parses := parseSetTime_beBytes new
  exact ⟨fun other => row.answers held (gated_other opened parses other _),
    fun holder _ _ _ answer => row.answers held ((gated_holder opened parses holder _).trans answer)⟩

theorem shift_asksForStep {s : State} {j : EngineJob} {code : Byte} {d : StepDirection} {m : BitVec 32}
    (held : Executing s j 0x54 ([code] ++ beBytes 4 m.toNat)) (named : shiftDirectionOfCode code = some d)
    (nonzero : m ≠ 0) (opened : s.isOpen j.client = true) :
    AsksForStep .shift (shiftedCount d m s.timebase) s j := by
  have row : Runs .shift 0x54 requestShift := fun _ => rfl
  have parses := parseShift_code named nonzero
  exact ⟨fun other => row.answers held (gated_other opened parses other _),
    fun holder _ _ _ answer => row.answers held ((gated_holder opened parses holder _).trans answer)⟩

/-- Settles O31: both requests come to the same step, which is refused, or made and reported. -/
theorem setTimeAndShiftStepTheCount : Obligations.SetTimeAndShiftStepTheCount := by
  intro s j i new asked opened
  have asks : AsksForStep i new s j := by
    rcases asked with ⟨rfl, held⟩ | ⟨rfl, m, nonzero, ⟨rfl, held⟩ | ⟨rfl, held⟩⟩
    · exact setTime_asksForStep held opened
    · exact shift_asksForStep (d := .forward) held (by decide) nonzero opened
    · exact shift_asksForStep (d := .backward) held (by decide) nonzero opened
  have moved := timeStep_moved new s
  refine ⟨asks.1, fun holder refused => asks.2 holder _ _ _ (stepRequest_refused refused), fun holder allowed => ?_⟩
  have made := asks.2 holder _ _ _ (stepRequest_allowed allowed)
  refine ⟨⟨timeStep new s, made, ?counts⟩, fun other => ?posts, fun forward normal => ?resolves⟩
  case posts =>
    rw [made, timeStep_only_posts other]
    rfl
  case resolves =>
    rw [made, timeStep_resolves forward normal]
    rfl
  case counts =>
    have count := moved.timebase
    refine ⟨count, moved.same State.timeState fun _ _ _ _ _ => rfl, moved.run,
      moved.same State.divider fun _ _ _ _ _ => rfl, moved.same State.authority fun _ _ _ _ _ => rfl,
      moved.same State.armed fun _ _ _ _ _ => rfl, moved.clock, moved.same State.useCounts fun _ _ _ _ _ => rfl,
      moved.same State.inputs fun _ _ _ _ _ => rfl, moved.same State.sync fun _ _ _ _ _ => rfl,
      fun named forward normal k e stands => ?_, fun c opened empty => ?_⟩
    · rw [count]
      exact timeStep_leaves_nothing named forward normal k e stands
    · exact (heads_timeStep (q := []) opened empty (by simp) (by decide)).head?

end Sys2Proof.Machine
end

section
/-!
PROOF. SYNC: a confirmed change performs or refuses the armed load (R27, R30), and the two requests that arm and disarm
it (R28, R29).
-/

namespace Sys2Proof.Machine

/-! ## The edge -/

theorem edgeFrom_eq (v : PinLevel) : edgeFrom v = if v = .low then .rise else .fall := by
  cases v <;> rfl

theorem otherLevel_eq (v : PinLevel) : otherLevel v = if v = .low then .high else .low := by
  cases v <;> rfl

/-- SYNC with the pending change confirmed (R27). -/
def State.syncFlipped (s : State) : State :=
  { s with sync := { level := if s.sync.level = .low then .high else .low, pending := none } }

theorem exec_syncEdge (s : State) : exec .syncEdge s = .next (trySyncEdge s) := rfl

theorem confirmedSync_iff (s : State) (latched : Count) :
    confirmedSync s = some latched
      ↔ s.sync.pending = some latched ∧ s.options.syncFilter ≤ distanceAhead s.run latched := by
  rw [confirmedSync, Option.filter_eq_some_iff, hasAdvanced_iff]

theorem trySyncEdge_confirmed {s : State} {latched : Count} (pending : s.sync.pending = some latched)
    (run : s.options.syncFilter ≤ distanceAhead s.run latched) :
    trySyncEdge s
      = syncLoad (if s.sync.level = .low then .rise else .fall) (s.run - latched) s.syncFlipped := by
  rw [trySyncEdge, (confirmedSync_iff s latched).mpr ⟨pending, run⟩]
  dsimp only
  rw [edgeFrom_eq, otherLevel_eq]
  rfl

theorem trySyncEdge_early {s : State}
    (early : ∀ latched, s.sync.pending = some latched → distanceAhead s.run latched < s.options.syncFilter) :
    trySyncEdge s = s := by
  have unconfirmed : confirmedSync s = none := Option.eq_none_iff_forall_ne_some.mpr fun latched confirmed => by
    obtain ⟨pending, run⟩ := (confirmedSync_iff s latched).mp confirmed
    exact absurd (early latched pending) (by omega)
  rw [trySyncEdge, unconfirmed]

/-! ## The load -/

/-- A quantity that does not read the clients is the same where only notices differ. -/
theorem OnlyNotices.same {α : Type} {s t : State} (h : OnlyNotices s t) (f : State → α)
    (blind : ∀ (u : State) vs, f { u with clients := vs } = f u) : f t = f s := by
  obtain ⟨vs, rfl, -⟩ := h
  exact blind s vs

/-- The answer to a load of a holder is its SYNC notice (R30). -/
theorem loadAnswered_holder {s : State} {c : ClientId} (holder : s.authority = some c) (detail : SyncDetail) :
    loadAnswered detail s = postNotice c .sync 0 (.sync detail) 0 { s with armed := none } := by
  rw [loadAnswered, holder]

theorem stepped_of_timebase {old new : Count} {s : State} (count : s.timebase = old) :
    stepped new s = postAll .shifted (shiftedDetail old new) { s with timebase := new, timeState := .set } := by
  rw [stepped, count]

/-- A first posting to an OPEN client with an empty queue (R126). -/
theorem notices_first {s : State} {c : ClientId} (opened : s.isOpen c = true) (empty : (s.client c).notices = [])
    (kind : NoticeKind) (detail : NoticeDetail) :
    ((postNotice c kind 0 detail 0 s).client c).notices = [firstNotice kind detail s.run] := by
  rw [client_postNotice_self, if_pos opened]
  exact notices_posted_nil empty

section
variable {s : State} {latched : Count} {load : ArmedLoad} {c : ClientId}

/-- The count to which a load steps (R30). -/
def loadedCount (load : ArmedLoad) (latched : Count) (s : State) : Count := load.value + (s.run - latched)

/-- A load that passes its checks is answered and performed (R30). -/
theorem trySyncEdge_allowed (pending : s.sync.pending = some latched)
    (run : s.options.syncFilter ≤ distanceAhead s.run latched) (armed : s.armed = some load)
    (kind : load.edge = if s.sync.level = .low then .rise else .fall)
    (allowed : stepAllowed (loadedCount load latched s) s = true) :
    trySyncEdge s = timeStep (loadedCount load latched s) (loadAnswered .loaded s.syncFlipped) := by
  rw [trySyncEdge_confirmed pending run]
  exact syncLoad_allowed (s := s.syncFlipped) armed kind allowed

/-- A load that fails its checks is refused (R30). -/
theorem trySyncEdge_refused (pending : s.sync.pending = some latched)
    (run : s.options.syncFilter ≤ distanceAhead s.run latched) (armed : s.armed = some load)
    (kind : load.edge = if s.sync.level = .low then .rise else .fall)
    (refused : stepAllowed (loadedCount load latched s) s = false) :
    trySyncEdge s = loadAnswered .refusedRange s.syncFlipped := by
  rw [trySyncEdge_confirmed pending run]
  exact syncLoad_refused (s := s.syncFlipped) armed kind refused

/-- The state in which a load's step is made: the load removed, the holder told (R30). -/
def State.loadTaken (c : ClientId) (s : State) : State :=
  postNotice c .sync 0 (.sync .loaded) 0 { s.syncFlipped with armed := none }

theorem loadTaken_onlyNotices (c : ClientId) (s : State) :
    OnlyNotices { s.syncFlipped with armed := none } (s.loadTaken c) := postNotice_onlyNotices ..

/-- SYNC LOADED and then SHIFTED stand at the head of the holder's empty queue (R26, R30). -/
theorem heads_load_holder (new : Count) (opened : s.isOpen c = true) (empty : (s.client c).notices = []) :
    Heads [firstNotice .sync (.sync .loaded) s.run, firstNotice .shifted (shiftedDetail s.timebase new) s.run]
      (timeStep new (s.loadTaken c)) c := by
  have only := loadTaken_onlyNotices c s
  have queue : ((s.loadTaken c).client c).notices = [firstNotice .sync (.sync .loaded) s.run] :=
    notices_first (s := { s.syncFlipped with armed := none }) opened empty ..
  have posted := heads_timeStep (new := new) ((only.isOpen c).trans opened) queue (by simp [firstNotice])
    (by simp)
  rwa [only.run, only.same State.timebase fun _ _ => rfl] at posted

/-- SHIFTED stands at the head of another client's empty queue (R26). -/
theorem heads_load_other {d : ClientId} (new : Count) (other : d ≠ c) (opened : s.isOpen d = true)
    (empty : (s.client d).notices = []) :
    Heads [firstNotice .shifted (shiftedDetail s.timebase new) s.run] (timeStep new (s.loadTaken c)) d := by
  have only := loadTaken_onlyNotices c s
  have queue : ((s.loadTaken c).client d).notices = [] := by
    rw [State.loadTaken, client_postNotice_other _ _ _ _ _ _ _ other.symm]
    exact empty
  have posted := heads_timeStep (new := new) ((only.isOpen d).trans opened) queue (by simp) (by decide)
  rwa [only.run, only.same State.timebase fun _ _ => rfl] at posted

end

/-- Settles O6: the command flips SYNC, and a load of its kind is refused, or taken and performed as one step. -/
theorem syncEdgePerformsTheArmedLoad : Obligations.SyncEdgePerformsTheArmedLoad := by
  refine ⟨fun s latched pending run => ⟨fun other => ?other, fun load c armed kind holder =>
    ⟨fun refused => ?refused, fun allowed => ?allowed⟩⟩, fun s early => ?early⟩
  case early => rw [exec_syncEdge, trySyncEdge_early early]
  case other =>
    rw [exec_syncEdge, trySyncEdge_confirmed pending run, syncLoad_other (s := s.syncFlipped) other]
    rfl
  case refused =>
    rw [exec_syncEdge, trySyncEdge_refused pending run armed kind refused, loadAnswered_holder (s := s.syncFlipped) holder]
    rfl
  case allowed =>
    have only := loadTaken_onlyNotices c s
    have made : exec .syncEdge s = .next (timeStep (loadedCount load latched s) (s.loadTaken c)) := by
      rw [exec_syncEdge, trySyncEdge_allowed pending run armed kind allowed,
        loadAnswered_holder (s := s.syncFlipped) holder, State.loadTaken]
    have count : (s.loadTaken c).timebase = s.timebase := only.same State.timebase fun _ _ => rfl
    have supply : (s.loadTaken c).supplyState = s.supplyState := only.same State.supplyState fun _ _ => rfl
    refine ⟨fun posts => ?posts, fun forward normal => ?resolves, _, made, ?counts⟩
    case posts =>
      rw [made, timeStep_only_posts (by rw [count, supply]; exact posts), stepped_of_timebase count]
      rfl
    case resolves =>
      rw [made, timeStep_resolves (by rw [count]; exact forward) (supply.trans normal), stepped_of_timebase count]
      rfl
    case counts =>
      have moved := timeStep_moved (loadedCount load latched s) (s.loadTaken c)
      have authority : (s.loadTaken c).authority = s.authority := only.same State.authority fun _ _ => rfl
      refine ⟨moved.timebase, moved.same State.timeState fun _ _ _ _ _ => rfl,
        (moved.same State.armed fun _ _ _ _ _ => rfl).trans (only.same State.armed fun _ _ => rfl),
        (moved.same State.authority fun _ _ _ _ _ => rfl).trans (authority.trans holder),
        (moved.same State.sync fun _ _ _ _ _ => rfl).trans (only.same State.sync fun _ _ => rfl),
        moved.run.trans only.run, fun named forward normal k e stands => ?_, fun opened empty => ?_,
        fun d other opened empty => (heads_load_other _ other opened empty).head?⟩
      · have unarmed : EntriesNamed { s.syncFlipped with armed := none } :=
          ⟨named.handle, named.repeats, named.width⟩
        rw [moved.timebase]
        exact timeStep_leaves_nothing (unarmed.of_onlyNotices only) (by rw [count]; exact forward)
          (supply.trans normal) k e stands
      · obtain ⟨rest, queue⟩ := heads_load_holder (loadedCount load latched s) opened empty
        rw [queue]
        rfl

/-! ## ARM_SYNC and DISARM_SYNC -/

theorem edgeKindOfCode_eq_some_iff (b : Byte) (e : EdgeKind) : edgeKindOfCode b = some e ↔ b = edgeKindCode e := by
  revert b
  cases e <;> decide

/-- The parameters of ARM_SYNC are a value and the code of an edge (R28). -/
theorem parseArm_bytes (value : Count) (edge : EdgeKind) :
    parseArm (beBytes 6 value.toNat ++ [edgeKindCode edge]) = some { value := value, edge := edge } := by
  have number := ofNat_beNat_beBytes 6 value (by norm_num)
  change (edgeKindOfCode (edgeKindCode edge)).map
    (ArmedLoad.mk (BitVec.ofNat 48 (beNat (beBytes 6 value.toNat)))) = _
  rw [edgeKindOfCode_code, number]
  rfl

theorem requestDisarmSync_holder {c : ClientId} {s : State} (opened : s.isOpen c = true)
    (holder : s.authority = some c) :
    requestDisarmSync c [] s
      = s.armed.elim (s, .notFound, []) fun load =>
          ({ s with armed := none }, .ok, beBytes 6 load.value.toNat ++ [edgeKindCode load.edge]) := by
  rw [requestDisarmSync, gated_holder (parsed := parseNone []) (a := ()) opened rfl holder]
  cases s.armed <;> rfl

/-- Settles O32: the gate of the two requests, and what they do with the load. -/
theorem syncLoadIsArmedAndDisarmed : Obligations.SyncLoadIsArmedAndDisarmed := by
  have arm : Runs .armSync 0x55 requestArmSync := fun _ => rfl
  have disarm : Runs .disarmSync 0x56 requestDisarmSync := fun _ => rfl
  refine fun s j opened => ⟨fun value edge held => ⟨fun other => ?_, fun holder => ?_⟩,
    fun held => ⟨fun other => ?_, fun holder unarmed => ?_, fun load holder armed => ?_⟩⟩
  · exact arm.answers held (gated_other opened (parseArm_bytes value edge) other _)
  · exact arm.answers held (gated_holder opened (parseArm_bytes value edge) holder _)
  · exact disarm.answers held (gated_other (a := ()) opened rfl other _)
  · exact disarm.answers held (by rw [requestDisarmSync_holder opened holder, unarmed]; rfl)
  · exact disarm.answers held (by rw [requestDisarmSync_holder opened holder, armed]; rfl)

end Sys2Proof.Machine
end

section
/-!
PROOF. The supply: the hold filter, and the entry and the exit of a supply hold (R53, R162 to R164).
-/

namespace Sys2Proof.Machine

/-! ## The hold filter -/

/-- The three hold thresholds with their levels (R162). -/
theorem microvolts_of_mem {threshold : HoldThreshold} {level : Nat}
    (mem : (threshold, level) ∈ [(HoldThreshold.v280, 2800000), (.v295, 2950000), (.v310, 3100000)]) :
    threshold.microvolts = level := by
  simp only [List.mem_cons, Prod.mk.injEq, List.not_mem_nil, or_false] at mem
  rcases mem with ⟨rfl, rfl⟩ | ⟨rfl, rfl⟩ | ⟨rfl, rfl⟩ <;> rfl

theorem supplyAcross_iff (s : State) :
    s.supplyAcross = true
      ↔ s.supplyState = .normal ∧ s.supplyUv < s.options.threshold.microvolts
        ∨ s.supplyState = .hold ∧ s.options.threshold.microvolts + 80000 < s.supplyUv := by
  unfold State.supplyAcross State.exitUv State.holdUv
  cases s.supplyState with
  | normal => simp
  | hold =>
    simp only [reduceCtorEq, false_and, true_and, false_or]
    exact decide_eq_true_iff

theorem exec_supplyCrossing {s : State} {v : Nat} (above : 2400000 ≤ v) (kept : 1200000 ≤ s.supplyUv) :
    exec (.supplyCrossing v) s = .next (crossSupply v s) :=
  congrArg Host.Outcome.next (if_pos ⟨above, kept⟩)

theorem crossSupply_unsampled {s : State} (unsampled : s.sampled = false) (v : Nat) :
    crossSupply v s = { s with supplyUv := v } := if_neg (by simp [unsampled])

theorem crossSupply_across {s : State} {v : Nat} (sampled : s.sampled = true)
    (across : State.supplyAcross { s with supplyUv := v } = true) :
    crossSupply v s = { s with supplyUv := v, holdFilter := some (s.holdFilter.getD s.run) } := by
  rw [crossSupply, if_pos sampled, superviseSupply, if_pos across]

theorem crossSupply_back {s : State} {v : Nat} (sampled : s.sampled = true)
    (back : ¬State.supplyAcross { s with supplyUv := v } = true) :
    crossSupply v s = { s with supplyUv := v, holdFilter := none } := by
  rw [crossSupply, if_pos sampled, superviseSupply, if_neg back]

/-- The three courses of the filter at a crossing, by a condition under which the supply is across (R163, R164). -/
theorem crossSupply_courses {s : State} {v : Nat} {across : Prop} (sampled : s.sampled = true)
    (condition : State.supplyAcross { s with supplyUv := v } = true ↔ across) :
    (across → s.holdFilter = none → crossSupply v s = { s with supplyUv := v, holdFilter := some s.run })
    ∧ (∀ latched, across → s.holdFilter = some latched → crossSupply v s = { s with supplyUv := v })
    ∧ (¬across → crossSupply v s = { s with supplyUv := v, holdFilter := none }) := by
  refine ⟨fun holds idle => ?_, fun latched holds runs => ?_, fun ends => crossSupply_back sampled
    (fun holds => ends (condition.mp holds))⟩
  · rw [crossSupply_across sampled (condition.mpr holds), idle]
    rfl
  · rw [crossSupply_across sampled (condition.mpr holds)]
    have kept : some (s.holdFilter.getD s.run) = s.holdFilter := by rw [runs]; rfl
    rw [kept]

/-! ## Hold entry -/

theorem holdFilterConfirmed_iff (s : State) :
    s.holdFilterConfirmed = true ↔ ∃ latched, s.holdFilter = some latched ∧ 20 ≤ distanceAhead s.run latched := by
  simp only [State.holdFilterConfirmed, Option.any_eq_true, hasAdvanced_iff, Config.holdFilterTicks]

theorem holdFilter_unconfirmed {s : State}
    (early : ∀ latched, s.holdFilter = some latched → distanceAhead s.run latched < 20) :
    ¬s.holdFilterConfirmed = true := by
  rw [holdFilterConfirmed_iff]
  rintro ⟨latched, runs, full⟩
  exact absurd (early latched runs) (by omega)

theorem exec_holdEntry (s : State) : exec .holdEntry s = .next (tryEnterHold s) := rfl

theorem exec_holdExit (s : State) : exec .holdExit s = .next (tryLeaveHold s) := rfl

theorem tryEnterHold_not_offered {s : State}
    (idle : s.supplyState = .hold ∨ ∀ latched, s.holdFilter = some latched → distanceAhead s.run latched < 20) :
    tryEnterHold s = s := by
  refine if_neg fun ⟨normal, confirmed⟩ => ?_
  rcases idle with hold | early
  · rw [normal] at hold
    cases hold
  · exact holdFilter_unconfirmed early confirmed

theorem tryLeaveHold_not_offered {s : State}
    (idle : s.supplyState = .normal ∨ ∀ latched, s.holdFilter = some latched → distanceAhead s.run latched < 20) :
    tryLeaveHold s = s := by
  refine if_neg fun ⟨hold, confirmed⟩ => ?_
  rcases idle with normal | early
  · rw [hold] at normal
    cases normal
  · exact holdFilter_unconfirmed early confirmed

theorem parked_held {r : Line} {lease : Lease} (held : r.lease = some lease) :
    r.parked = { r with level := lease.park, pulse := none } := by
  rw [Line.parked, held]

theorem parked_free {r : Line} (free : r.lease = none) : r.parked = r := by
  rw [Line.parked, free]

/-- What hold entry changes (R163). -/
theorem enterHold_frame (s : State) :
    ∃ vs ls, enterHold s = { s with supplyState := .hold, holdFilter := none, lines := ls, clients := vs } := by
  obtain ⟨vs, posted, -⟩ := postAll_onlyNotices .supply (.supply .holdEntered)
    (parkLines { s with supplyState := .hold, holdFilter := none })
  exact ⟨vs, _, posted⟩

theorem line_enterHold (s : State) (l : LineId) : (enterHold s).line l = (s.line l).parked := by
  rw [enterHold, (postAll_onlyNotices ..).line, line_parkLines]
  rfl

theorem client_enterHold (s : State) (c : ClientId) :
    (enterHold s).client c = (postNotice c .supply 0 (.supply .holdEntered) 0 s).client c := by
  rw [enterHold, client_postAll]
  exact client_postNotice_congr _ _ _ _ _ rfl rfl

/-- Settles O35: the filter by the level that applies, and hold entry line by line and client by client. -/
theorem holdFilterRunsAndHoldEntryParksTheLines : Obligations.HoldFilterRunsAndHoldEntryParksTheLines := by
  refine ⟨fun s v threshold level mem choice above kept => ?_, fun s => ⟨fun latched normal runs full => ?_,
    fun idle => ?_⟩⟩
  · have threshold_level : s.options.threshold.microvolts = level := choice ▸ microvolts_of_mem mem
    rw [exec_supplyCrossing above kept]
    refine ⟨fun unsampled => congrArg _ (crossSupply_unsampled unsampled v), fun sampled normal => ?_,
      fun sampled hold => ?_⟩
    · obtain ⟨begins, goesOn, ends⟩ := crossSupply_courses (v := v) (across := v < level) sampled
        ((supplyAcross_iff _).trans (by simp [normal, threshold_level]))
      exact ⟨fun across idle => congrArg _ (begins across idle),
        fun latched across runs => congrArg _ (goesOn latched across runs),
        fun back => congrArg _ (ends (not_lt.mpr back))⟩
    · obtain ⟨begins, goesOn, ends⟩ := crossSupply_courses (v := v) (across := level + 80000 < v) sampled
        ((supplyAcross_iff _).trans (by simp [hold, threshold_level]))
      exact ⟨fun across idle => congrArg _ (begins across idle),
        fun latched across runs => congrArg _ (goesOn latched across runs),
        fun back => congrArg _ (ends (not_lt.mpr back))⟩
  · have entered : tryEnterHold s = enterHold s :=
      if_pos ⟨normal, (holdFilterConfirmed_iff s).mpr ⟨latched, runs, full⟩⟩
    refine ⟨enterHold s, (exec_holdEntry s).trans (congrArg _ entered), ?_, fun l lease held => ?_, fun l free => ?_,
      client_enterHold s⟩
    · obtain ⟨vs, ls, frame⟩ := enterHold_frame s
      rw [frame]
    · rw [line_enterHold, parked_held held]
    · rw [line_enterHold, parked_free free]
  · rw [exec_holdEntry, tryEnterHold_not_offered idle]

/-! ## Hold exit -/

/-- Hold exit before its late resolution (R164). -/
def holdLeft (s : State) : State :=
  postAll .supply (.supply .holdLeft) { s with supplyState := .normal, holdFilter := none }

theorem holdLeft_onlyNotices (s : State) :
    OnlyNotices { s with supplyState := .normal, holdFilter := none } (holdLeft s) := postAll_onlyNotices ..

theorem leaveHold_eq (s : State) : leaveHold s = resolveLate (holdLeft s) := rfl

/-- A late resolution spares a line with no entry on it (R69). -/
theorem line_resolveLate_other {s : State} {l : LineId} (none : ∀ k e, s.slot k = some e → e.body.line ≠ l) :
    (resolveLate s).line l = s.line l :=
  resolveLate_spares (·.line l) (·.body.line = l) (fun _ _ same on => same.line.symm.trans on) (fun _ _ => rfl)
    (fun _ _ => line_resolveEntry_other) (fun _ _ => line_takeOccurrence_other)
    fun k e stood on => absurd on (none k e stood)

/-- Settles O36: hold exit posts HOLD_LEFT and makes the late resolution of R70. -/
theorem holdExitResolvesLateEntries : Obligations.HoldExitResolvesLateEntries := by
  refine fun s => ⟨fun latched hold runs full => ?_, fun idle => ?_⟩
  · have left : exec .holdExit s = .next (leaveHold s) :=
      congrArg Host.Outcome.next (if_pos ⟨hold, (holdFilterConfirmed_iff s).mpr ⟨latched, runs, full⟩⟩)
    have only := holdLeft_onlyNotices s
    have normal : (holdLeft s).supplyState = .normal := only.same State.supplyState fun _ _ => rfl
    have moved := leaveHold_moved s
    refine ⟨left, leaveHold s, left, moved.supplyState, moved.holdFilter, moved.timebase, moved.run,
      moved.same State.useCounts fun _ _ _ _ _ => rfl, fun named k e stands => ?_, fun l none => ?_,
      fun c opened empty => ?_⟩
    · have released : EntriesNamed { s with supplyState := .normal, holdFilter := none } :=
        ⟨named.handle, named.repeats, named.width⟩
      have apart := resolveLate_leaves_nothing (released.of_onlyNotices only) normal stands
      rwa [only.same State.timebase fun _ _ => rfl, ← moved.timebase] at apart
    · rw [leaveHold_eq, line_resolveLate_other, only.line]
      · rfl
      · intro k e stands
        rw [only.slot] at stands
        exact none k e stands
    · have posted : Heads ([] ++ [firstNotice .supply (.supply .holdLeft) s.run]) (holdLeft s) c :=
        heads_postAll (s := { s with supplyState := .normal, holdFilter := none }) opened empty (by simp) (by simp)
      exact (posted.resolveLate (by simp [NotOfEntries, firstNotice])).head?
  · rw [exec_holdExit, tryLeaveHold_not_offered idle]

end Sys2Proof.Machine
end

section
/-!
PROOF. Failover: the cycles that a missing edge in MAIN still lacks, the withdrawal of the strict entries, and the
notices in their order (R9, R10, R76).
-/

namespace Sys2Proof.Machine

/-! ## The events of the clock supervisor -/

/-- An event of the clock supervisor that is on offer once its cycles have passed without a tick is taken (log 8). -/
theorem passTo_offered {owed : List Oscillator} {offered : State → Bool} {event : State → State} {s t : State}
    (passed : passCycles owed s = t) (run : t.run = s.run) (offer : offered t = true) :
    passTo owed offered event s = event t := by
  subst passed
  exact if_pos ⟨run, offer⟩

/-- One that is not on offer then is not taken (log 8). -/
theorem passTo_not_offered {owed : List Oscillator} {offered : State → Bool} {event : State → State} {s t : State}
    (passed : passCycles owed s = t) (idle : offered t = false) : passTo owed offered event s = s := by
  subst passed
  exact if_neg fun both => by rw [idle] at both; cases both.2

/-- One whose cycles bring a tick is not taken (log 8). -/
theorem passTo_ticked {owed : List Oscillator} {offered : State → Bool} {event : State → State} {s : State}
    (ticked : (passCycles owed s).run ≠ s.run) : passTo owed offered event s = s := if_neg fun both => ticked both.1

theorem exec_failover (s : State) :
    exec .failover s = .next (passTo (owedToMissingEdge .main s) State.failoverDue failover s) := rfl

theorem missingEdge_iff (s : State) : s.missingEdge = true ↔ 4 ≤ s.missingCycles := decide_eq_true_iff

theorem failoverDue_iff (s : State) : s.failoverDue = true ↔ s.clock = some .main ∧ 4 ≤ s.missingCycles := by
  rw [State.failoverDue, Bool.and_eq_true, beq_iff_eq, missingEdge_iff]

theorem owedToMissingEdge_none {k : ClockState} {s : State} (idle : s.clock ≠ some k ∨ 4 ≤ s.missingCycles) :
    owedToMissingEdge k s = [] := by
  unfold owedToMissingEdge
  split
  next watched =>
    rcases idle with other | missing
    · exact absurd watched.1 other
    · rw [Config.missingEdgeCycles, Nat.sub_eq_zero_of_le missing]
      rfl
  next => rfl

/-- In MAIN a backup cycle is counted by the watch and issues no tick (R1, R9). -/
theorem passCycle_main {s : State} (main : s.clock = some .main) (running : s.phase = .running)
    (due : dueEvents s = []) (left : s.missingCycles < 4) :
    passCycle s .backup = { s with missingCycles := s.missingCycles + 1 } := by
  rw [passCycle_of_no_due s .backup running due (by simp),
    oscillatorCycle_other .backup s (by simp [State.tickSource, main, ClockState.tickSource])]
  have most : min (s.missingCycles + 1) Config.missingEdgeCycles = s.missingCycles + 1 := Nat.min_eq_left left
  simp only [superviseCycle, backupCycle, main, countSilence, most]

theorem dueEvents_missing {s : State} (main : s.clock = some .main) (due : dueEvents s = []) {missing : Nat}
    (few : missing < 4) : dueEvents { s with missingCycles := missing } = [] := by
  refine dueEvents_counts s missing s.startWindow s.restartProgress s.divider due ?_ ?_ ?_ ?_
  · rw [← Bool.not_eq_true, failoverDue_iff]
    exact fun both => absurd both.2 (not_le.mpr few)
  · simp [State.restartProven, main]
  · simp [State.restartLost, main]
  · simp [State.windowOver, main]

/-- In MAIN with nothing due the backup cycles up to a missing edge move the watch's count only (R9). -/
theorem passCycles_main (n : Nat) {s : State} (main : s.clock = some .main) (running : s.phase = .running)
    (due : dueEvents s = []) (left : s.missingCycles + n ≤ 4) :
    passCycles (List.replicate n .backup) s = { s with missingCycles := s.missingCycles + n } := by
  induction n generalizing s with
  | zero => rfl
  | succ n ih =>
    rw [List.replicate_succ, passCycles_cons, passCycle_main main running due (by omega)]
    cases n with
    | zero => rfl
    | succ n =>
      have rest := ih (s := { s with missingCycles := s.missingCycles + 1 }) main running
        (dueEvents_missing main due (by omega)) (show s.missingCycles + 1 + (n + 1) ≤ 4 by omega)
      rw [rest, Nat.add_right_comm]
      rfl

/-- A failover that comes early waits for the cycles that the missing edge lacks (log 8). -/
theorem passTo_failover_early {s : State} (main : s.clock = some .main) (running : s.phase = .running)
    (due : dueEvents s = []) (early : s.missingCycles < 4) :
    passTo (owedToMissingEdge .main s) State.failoverDue failover s = failover { s with missingCycles := 4 } := by
  have owed : owedToMissingEdge .main s = List.replicate (4 - s.missingCycles) .backup :=
    if_pos ⟨main, by simp [State.mainWatched, main]⟩
  have passed := passCycles_main (4 - s.missingCycles) main running due (by omega)
  rw [Nat.add_sub_of_le early.le] at passed
  rw [owed]
  exact passTo_offered passed rfl ((failoverDue_iff _).mpr ⟨main, le_rfl⟩)

theorem passTo_failover {s : State} (main : s.clock = some .main) (missing : 4 ≤ s.missingCycles) :
    passTo (owedToMissingEdge .main s) State.failoverDue failover s = failover s := by
  rw [owedToMissingEdge_none (.inr missing), passTo_nil, if_pos ((failoverDue_iff s).mpr ⟨main, missing⟩)]

/-! ## Failover -/

/-- Failover before its withdrawals (R10). -/
def failedOver (s : State) : State :=
  postAll .clock (.clock .backup) { s with clock := some .backup, missingCycles := 0 }

theorem failover_eq {s : State} (due : s.failoverDue = true) : failover s = withdrawStrict (failedOver s) := if_pos due

theorem failedOver_onlyNotices (s : State) :
    OnlyNotices { s with clock := some .backup, missingCycles := 0 } (failedOver s) := postAll_onlyNotices ..

/-- The frame of a withdrawal of strict entries (R76). -/
theorem withdrawStrict_frame (s : State) :
    withdrawStrict s = { s with slots := (withdrawStrict s).slots, clients := (withdrawStrict s).clients } := by
  unfold withdrawStrict
  refine foldl_keeps (fun u : State => u = { s with slots := u.slots, clients := u.clients }) _ _ _
    (fun u p _ same => ?_) rfl
  obtain ⟨vs, posted, -⟩ := postWithdrawn_onlyNotices p.2 .strict (u.setSlot p.1 none)
  rw [posted, same]
  rfl

/-- A client is posted the withdrawal of its own entry, when the entry asks for notices (R76, R90). -/
theorem client_postWithdrawn (e : Entry) (reason : WithdrawReason) (s : State) (c : ClientId) :
    (postWithdrawn e reason s).client c
      = if e.owner == c && e.body.notify != .none then
          (postNotice c .withdrawn e.handle (.withdrawn reason) e.body.tag s).client c
        else s.client c := by
  by_cases own : e.owner = c
  · subst own
    unfold postWithdrawn
    cases e.body.notify <;> simp
  · rw [client_postWithdrawn_other own, if_neg (by simp [own])]

theorem run_postWithdrawn (e : Entry) (reason : WithdrawReason) (s : State) : (postWithdrawn e reason s).run = s.run :=
  (postWithdrawn_onlyNotices e reason s).run

/-- The withdrawal of some entries posts to a client for each of its own that asks for notices, in their order. -/
theorem client_foldl_withdraw (c : ClientId) (ps : List (SlotId × Entry)) {s u : State}
    (client : s.client c = u.client c) (run : s.run = u.run) :
    (ps.foldl (fun s p => postWithdrawn p.2 .strict (s.setSlot p.1 none)) s).client c
      = ((ps.filter fun p => p.2.owner == c && p.2.body.notify != .none).foldl
          (fun u p => postNotice c .withdrawn p.2.handle (.withdrawn .strict) p.2.body.tag u) u).client c := by
  induction ps generalizing s u with
  | nil => exact client
  | cons p ps ih =>
    have posted := client_postWithdrawn p.2 .strict (s.setSlot p.1 none) c
    have ran := run_postWithdrawn p.2 .strict (s.setSlot p.1 none)
    rw [List.foldl_cons, List.filter_cons]
    split
    next own =>
      rw [if_pos own] at posted
      refine ih (posted.trans (client_postNotice_congr _ _ _ _ _ client run)) (ran.trans (run.trans ?_))
      exact (postNotice_onlyNotices ..).run.symm
    next other =>
      rw [if_neg other] at posted
      exact ih (posted.trans client) (ran.trans run)

theorem dueOrder_failedOver (s : State) : (failedOver s).dueOrder = s.dueOrder :=
  (failedOver_onlyNotices s).same State.dueOrder fun _ _ => rfl

/-- The CLOCK notice stands before those of a client's strict entries (R10). -/
theorem client_failover {s : State} (due : s.failoverDue = true) (c : ClientId) :
    (failover s).client c
      = ((s.dueOrder.filter fun p => p.2.body.strict && p.2.owner == c && p.2.body.notify != .none).foldl
          (fun u p => postNotice c .withdrawn p.2.handle (.withdrawn .strict) p.2.body.tag u)
          (postNotice c .clock 0 (.clock .backup) 0 s)).client c := by
  have client : (failedOver s).client c = (postNotice c .clock 0 (.clock .backup) 0 s).client c :=
    (client_postAll ..).trans (client_postNotice_congr _ _ _ _ _ rfl rfl)
  have run : (failedOver s).run = (postNotice c .clock 0 (.clock .backup) 0 s).run :=
    (failedOver_onlyNotices s).run.trans (postNotice_onlyNotices c .clock 0 (.clock .backup) 0 s).run.symm
  have picked : (s.dueOrder.filter fun p => p.2.body.strict).filter
        (fun p => p.2.owner == c && p.2.body.notify != .none)
      = s.dueOrder.filter fun p => p.2.body.strict && p.2.owner == c && p.2.body.notify != .none := by
    rw [List.filter_filter]
    refine List.filter_congr fun p _ => ?_
    rw [Bool.and_comm, Bool.and_assoc]
  rw [failover_eq due, withdrawStrict, dueOrder_failedOver, client_foldl_withdraw c _ client run, picked]

/-- Settles O33: failover at a missing edge, before one, and in the other clock states. -/
theorem failoverSwitchesToBackup : Obligations.FailoverSwitchesToBackup := by
  refine fun s => ⟨fun main missing => ?_, fun main running due early => ?_, fun other => ?_⟩
  · have due := (failoverDue_iff s).mpr ⟨main, missing⟩
    have frame := withdrawStrict_frame (failedOver s)
    obtain ⟨vs, posted, -⟩ := failedOver_onlyNotices s
    rw [← failover_eq due, posted] at frame
    have clock : (failover s).clock = some .backup := congrArg State.clock frame
    refine ⟨failover s, (exec_failover s).trans (congrArg _ (passTo_failover main missing)), clock, ?_,
      congrArg State.missingCycles frame, ?_, slot_failover due, client_failover due⟩
    · rw [State.quality, clock]
    · rw [clock, congrArg State.missingCycles frame]
      exact frame
  · rw [exec_failover, exec_failover, passTo_failover_early main running due early,
      passTo_failover (s := { s with missingCycles := 4 }) main le_rfl]
  · rw [exec_failover, owedToMissingEdge_none (.inl other), passTo_nil, if_neg]
    exact fun due => other ((failoverDue_iff s).mp due).1

end Sys2Proof.Machine
end

section
/-!
PROOF. The restart of the main oscillator: how RESTORE_CLOCK begins it, and its ends, at once, after the cycles that they
lack, or not at all (R11, R12).
-/

namespace Sys2Proof.Machine

/-! ## The events -/

theorem exec_firstMainEdge (s : State) : exec .firstMainEdge s = .next (firstMainEdge s) := rfl

theorem exec_restartSuccess (s : State) :
    exec .restartSuccess s = .next (passTo (owedToProving s) (ended State.restartProven) restartSuccess s) := rfl

theorem exec_restartMissingEdge (s : State) :
    exec .restartMissingEdge s
      = .next (passTo (owedToMissingEdge .restarting s) (ended State.restartLost) restartMissingEdge s) := rfl

theorem exec_startWindowExpiry (s : State) :
    exec .startWindowExpiry s = .next (passTo (owedToWindow s) (ended State.windowOver) startWindowExpiry s) := rfl

theorem restartProven_iff (s : State) :
    s.restartProven = true ↔ s.clock = some .restarting ∧ s.startWindow = none ∧ 16384 ≤ s.restartProgress := by
  simp only [State.restartProven, Bool.and_eq_true, beq_iff_eq, Option.isNone_iff_eq_none, and_assoc,
    decide_eq_true_iff]
  exact Iff.rfl

theorem restartLost_iff (s : State) :
    s.restartLost = true ↔ s.clock = some .restarting ∧ s.startWindow = none ∧ 4 ≤ s.missingCycles := by
  simp only [State.restartLost, Bool.and_eq_true, beq_iff_eq, Option.isNone_iff_eq_none, and_assoc, missingEdge_iff]

theorem windowOver_iff (s : State) :
    s.windowOver = true ↔ s.clock = some .restarting ∧ s.startWindow = some 0 := by
  simp only [State.windowOver, Bool.and_eq_true, beq_iff_eq]

theorem firstEdgeDue_iff (s : State) :
    s.firstEdgeDue = true ↔ s.clock = some .restarting ∧ ∃ left, s.startWindow = some left ∧ 0 < left := by
  simp only [State.firstEdgeDue, Bool.and_eq_true, beq_iff_eq, Option.any_eq_true, decide_eq_true_iff]

/-- The request that began the restart has completed (R12). -/
def RestoreCompleted (s : State) : Prop :=
  ∀ j, s.engine = some j → j.frame.kind = 0x57 → j.outcome ≠ some (.ok, [])

theorem restoreUncompleted_iff (s : State) : s.restoreUncompleted = true ↔ ¬RestoreCompleted s := by
  simp only [State.restoreUncompleted, Option.any_eq_true, Bool.and_eq_true, beq_iff_eq, RestoreCompleted, not_forall,
    not_not, exists_prop]

theorem ended_iff (condition : State → Bool) (s : State) :
    ended condition s = true ↔ condition s = true ∧ RestoreCompleted s := by
  rw [ended, Bool.and_eq_true, Bool.not_eq_true', ← Bool.not_eq_true, restoreUncompleted_iff, not_not]

theorem ended_false {condition : State → Bool} {s : State}
    (idle : condition s = true → ¬RestoreCompleted s) : ended condition s = false := by
  rw [← Bool.not_eq_true, ended_iff]
  exact fun both => idle both.1 both.2

/-! ## An end, or none -/

section
variable {owed : List Oscillator} {condition : State → Bool} {event : State → State} {clock : ClockState}
  {detail : ClockDetail} {s t : State}

/-- An event of a restart ends it when its condition holds and the request has completed (R12). -/
def Ends (condition : State → Bool) (event : State → State) (clock : ClockState) (detail : ClockDetail) : Prop :=
  ∀ s, ended condition s = true → event s = endRestart clock detail s

/-- The end of a restart, after its cycles, by whether the request has completed (R12, log 8). -/
theorem passTo_ends (ends : Ends condition event clock detail) (passed : passCycles owed s = t) (run : t.run = s.run)
    (engine : t.engine = s.engine) (holds : condition t = true) :
    (RestoreCompleted s → passTo owed (ended condition) event s = endRestart clock detail t)
    ∧ (¬RestoreCompleted s → passTo owed (ended condition) event s = s) := by
  have same : RestoreCompleted t ↔ RestoreCompleted s := by rw [RestoreCompleted, RestoreCompleted, engine]
  refine ⟨fun completed => ?_, fun uncompleted => passTo_not_offered passed
    (ended_false fun _ => fun completed => uncompleted (same.mp completed))⟩
  have offer := (ended_iff condition t).mpr ⟨holds, same.mpr completed⟩
  exact (passTo_offered passed run offer).trans (ends t offer)

/-- No end comes where its condition does not hold (log 1). -/
theorem passTo_no_end (none : owed = []) (idle : ¬condition s = true) :
    passTo owed (ended condition) event s = s := by
  rw [none]
  exact passTo_not_offered rfl (ended_false fun holds => absurd holds idle)

end

theorem restartSuccess_ends : Ends State.restartProven restartSuccess .main .main := fun _ offer => if_pos offer

theorem restartMissingEdge_ends : Ends State.restartLost restartMissingEdge .backup .restoreFailed :=
  fun _ offer => if_pos offer

theorem startWindowExpiry_ends : Ends State.windowOver startWindowExpiry .backup .restoreFailed :=
  fun _ offer => if_pos offer

/-! ## The cycles that are lacking -/

theorem owedToMissingEdge_window {s : State} {left : Nat} (restarting : s.clock = some .restarting)
    (window : s.startWindow = some left) : owedToMissingEdge .restarting s = [] := by
  refine if_neg fun watched => ?_
  have on := watched.2
  rw [State.mainWatched, restarting] at on
  simp [window] at on

theorem owedToMissingEdge_watched {s : State} (restarting : s.clock = some .restarting) (watched : s.startWindow = none) :
    owedToMissingEdge .restarting s = List.replicate (4 - s.missingCycles) .backup := by
  refine if_pos ⟨restarting, ?_⟩
  rw [State.mainWatched, restarting]
  simp [watched]

theorem owedToProving_none {s : State} (idle : ¬(s.clock = some .restarting ∧ s.startWindow = none
    ∧ s.restartProgress + 1 = 16384)) : owedToProving s = [] := if_neg idle

theorem owedToWindow_none {s : State}
    (idle : ∀ left, s.clock = some .restarting → s.startWindow = some left → 0 < left → 8 ≤ left + s.divider.val) :
    owedToWindow s = [] := by
  unfold owedToWindow
  split
  next left window =>
    split
    next short =>
      rcases Nat.eq_zero_or_pos left with rfl | positive
      · rfl
      · have := idle left short.1 window positive
        rw [Config.cyclesPerTick] at short
        omega
    next => rfl
  next => rfl

theorem owedToWindow_short_of_tick {s : State} {left : Nat} (restarting : s.clock = some .restarting)
    (window : s.startWindow = some left) (short : left + s.divider.val < 8) :
    owedToWindow s = List.replicate left .backup := by
  rw [owedToWindow, window]
  exact if_pos ⟨restarting, short⟩

/-- A good cycle after the first main edge issues no tick (R1, R12). -/
theorem passCycles_goodCycle {s : State} (restarting : s.clock = some .restarting) (watched : s.startWindow = none)
    (running : s.phase = .running) (due : dueEvents s = []) (progress : s.restartProgress = 16383) :
    passCycles [.main] s = { s with restartProgress := 16384, missingCycles := 0 } := by
  have going : s.missingEdge = false := by
    rw [← Bool.not_eq_true, missingEdge_iff]
    intro missing
    have lost := (restartLost_iff s).mpr ⟨restarting, watched, missing⟩
    simp [dueEvents, lost] at due
  have passed : passCycle s .main = restartEdge s := by
    rw [passCycle_of_no_due s .main running due (fun _ => by simp [State.mainRunning, restarting, ClockState.mainRunning]),
      oscillatorCycle_other .main s (by simp [State.tickSource, restarting, ClockState.tickSource])]
    simp only [superviseCycle, mainCycle, restarting]
  have most : min (s.restartProgress + 1) Config.provingRun = 16384 := by
    rw [progress]
    rfl
  rw [passCycles_cons, passed, restartEdge, watched]
  dsimp only
  rw [going, if_neg (by simp), most]
  rfl

theorem passCycles_append (first rest : List Oscillator) (s : State) :
    passCycles (first ++ rest) s = passCycles rest (passCycles first s) := List.foldl_append

/-- Silent backup cycles enough for a tick bring one (R1). -/
theorem passCycles_silent_ticks {s : State} {n : Nat} (restarting : s.clock = some .restarting)
    (watched : s.startWindow = none) (left : s.missingCycles + n = 4) (long : 8 ≤ n + s.divider.val)
    (running : s.phase = .running) (due : dueEvents s = []) :
    (passCycles (List.replicate n .backup) s).run ≠ s.run := by
  have unproven : ¬s.restartProven = true := fun proven => by simp [dueEvents, proven] at due
  obtain ⟨m, rest, split, last⟩ : ∃ m rest, n = m + (rest + 1) ∧ s.divider.val + m = 7 :=
    ⟨7 - s.divider.val, n - (8 - s.divider.val), by omega, by omega⟩
  let t : State := { s with missingCycles := s.missingCycles + m, divider := Fin.ofNat 8 (s.divider.val + m) }
  have silent : passCycles (List.replicate m .backup) s = t :=
    passCycles_silent m s restarting watched (show s.missingCycles + m ≤ 4 by omega) (by omega) running due
  have quiet : dueEvents t = [] := by
    refine dueEvents_counts s _ s.startWindow s.restartProgress _ due ?_ ?_ ?_ ?_
    · simp [State.failoverDue, restarting]
    · exact Bool.eq_false_iff.mpr unproven
    · rw [← Bool.not_eq_true, restartLost_iff]
      exact fun lost => absurd lost.2.2 (by simp only; omega)
    · simp [State.windowOver, watched]
  have cycle : passCycle t .backup = tickCore (superviseCycle .backup t) := by
    rw [passCycle_of_no_due t .backup running quiet (by simp)]
    refine oscillatorCycle_tick .backup t (by simp [t, State.tickSource, restarting, ClockState.tickSource]) ?_
    simp only [t, last]
    rfl
  obtain ⟨_, _, _, _, counts⟩ := superviseCycle_counts .backup t
  have ticked : (passCycle t .backup).run = s.run + 1 := by
    rw [cycle, tickCore_run, counts]
  obtain ⟨k, few, -, run⟩ := passCycles_passed (passCycle t .backup) (List.replicate rest .backup)
  have all : passCycles (List.replicate n .backup) s
      = passCycles (List.replicate rest .backup) (passCycle t .backup) := by
    rw [split, List.replicate_add, passCycles_append, silent, List.replicate_succ, passCycles_cons]
  rw [List.length_replicate] at few
  rw [all, run, ticked]
  intro same
  have total : s.run + BitVec.ofNat 48 (k + 1) = s.run + BitVec.ofNat 48 0 := by
    rw [BitVec.ofNat_add, BitVec.add_comm (BitVec.ofNat 48 k), ← BitVec.add_assoc]
    exact same.trans (by simp)
  have := ticks_eq (by omega) (by norm_num) total
  omega

/-! ## RESTORE_CLOCK -/

theorem requestRestoreClock_holder {c : ClientId} {s : State} (opened : s.isOpen c = true)
    (holder : s.authority = some c) :
    (s.clock = some .backup → requestRestoreClock c [] s
      = ({ s with clock := some .restarting, restartProgress := 0, startWindow := some 80000, missingCycles := 0 },
          .ok, []))
    ∧ (s.clock = some .main → requestRestoreClock c [] s = (s, .invalidState, []))
    ∧ (s.clock = some .restarting → requestRestoreClock c [] s = (s, .busy, [])) := by
  rw [requestRestoreClock, gated_holder (parsed := parseNone []) (a := ()) opened rfl holder]
  refine ⟨fun backup => ?_, fun main => ?_, fun restarting => ?_⟩
  · rw [backup]
    rfl
  · rw [main]
    rfl
  · rw [restarting]
    rfl

/-! ## The first main edge -/

theorem firstMainEdge_in_window {s : State} {left : Nat} (restarting : s.clock = some .restarting)
    (window : s.startWindow = some left) (positive : 0 < left) :
    firstMainEdge s = { s with startWindow := none, restartProgress := 0, missingCycles := 0 } := by
  rw [firstMainEdge, if_pos ((firstEdgeDue_iff s).mpr ⟨restarting, left, window, positive⟩), restartEdge, window]

theorem firstMainEdge_outside {s : State} (outside : ∀ left, s.startWindow = some left → left = 0) :
    firstMainEdge s = s := by
  refine if_neg fun due => ?_
  obtain ⟨-, left, window, positive⟩ := (firstEdgeDue_iff s).mp due
  exact absurd (outside left window) (by omega)

/-! ## No end -/

/-- A restart does not succeed before its whole proving run, nor in its start window (R12). -/
theorem restartSuccess_idle {s : State}
    (idle : s.clock = some .restarting → s.startWindow = none → s.restartProgress < 16383) :
    exec .restartSuccess s = .next s := by
  have none : owedToProving s = [] := owedToProving_none fun ⟨restarting, watched, last⟩ => by
    have := idle restarting watched
    omega
  have unproven : ¬s.restartProven = true := fun proven => by
    obtain ⟨restarting, watched, full⟩ := (restartProven_iff s).mp proven
    have := idle restarting watched
    omega
  exact (exec_restartSuccess s).trans (congrArg _ (passTo_no_end none unproven))

/-- Outside a restart, and in its start window, no missing edge ends it (R9, R12). -/
theorem restartMissingEdge_idle {s : State} (idle : s.clock = some .restarting → s.startWindow ≠ none) :
    exec .restartMissingEdge s = .next s := by
  have kept : ¬s.restartLost = true := fun lost => by
    obtain ⟨restarting, watched, -⟩ := (restartLost_iff s).mp lost
    exact idle restarting watched
  have none : owedToMissingEdge .restarting s = [] := by
    by_cases restarting : s.clock = some .restarting
    · obtain ⟨left, window⟩ := Option.ne_none_iff_exists'.mp (idle restarting)
      exact owedToMissingEdge_window restarting window
    · exact owedToMissingEdge_none (.inl restarting)
  exact (exec_restartMissingEdge s).trans (congrArg _ (passTo_no_end none kept))

/-- A start window that has more cycles than come without a tick does not run out (R1, R12). -/
theorem startWindowExpiry_idle {s : State}
    (idle : s.clock = some .restarting → ∀ left, s.startWindow = some left → 0 < left ∧ 8 ≤ left + s.divider.val) :
    exec .startWindowExpiry s = .next s := by
  have going : ¬s.windowOver = true := fun out => by
    obtain ⟨restarting, window⟩ := (windowOver_iff s).mp out
    exact absurd (idle restarting 0 window).1 (lt_irrefl 0)
  have none : owedToWindow s = [] := owedToWindow_none fun left restarting window _ => (idle restarting left window).2
  exact (exec_startWindowExpiry s).trans (congrArg _ (passTo_no_end none going))

/-! ## The ends -/

/-- What the end of a restart makes, with the divider as the cycles have left it (R12). -/
def restartEnded (clock : ClockState) (detail : ClockDetail) (s : State) (divider : Fin 8) : State :=
  postAll .clock (.clock detail)
    { s with clock := some clock, restartProgress := 0, startWindow := none, missingCycles := 0, divider := divider }

/-- A command ends a restart once its request has completed, and till then does nothing (R12). -/
def EndsOnceCompleted (i : Instr) (s t : State) : Prop :=
  (RestoreCompleted s → exec i s = .next t) ∧ (¬RestoreCompleted s → exec i s = .next s)

section
variable {s : State} (restarting : s.clock = some .restarting)
include restarting

theorem startWindowExpiry_out (window : s.startWindow = some 0) :
    EndsOnceCompleted .startWindowExpiry s (restartEnded .backup .restoreFailed s s.divider) := by
  have none : owedToWindow s = [] := owedToWindow_none fun left _ held positive => by
    rw [window] at held
    cases held
    exact absurd positive (lt_irrefl 0)
  obtain ⟨ends, waits⟩ := passTo_ends startWindowExpiry_ends (owed := []) (s := s) rfl rfl rfl
    ((windowOver_iff s).mpr ⟨restarting, window⟩)
  rw [EndsOnceCompleted, exec_startWindowExpiry, none]
  exact ⟨fun completed => congrArg _ (ends completed), fun uncompleted => congrArg _ (waits uncompleted)⟩

theorem startWindowExpiry_soon {left : Nat} (window : s.startWindow = some left) (short : left + s.divider.val < 8)
    (running : s.phase = .running) (due : dueEvents s = []) :
    EndsOnceCompleted .startWindowExpiry s
      (restartEnded .backup .restoreFailed s (Fin.ofNat 8 (s.divider.val + left))) := by
  have passed := passCycles_window left s restarting window (by omega) running due
  obtain ⟨ends, waits⟩ := passTo_ends startWindowExpiry_ends passed rfl rfl
    ((windowOver_iff _).mpr ⟨restarting, rfl⟩)
  rw [EndsOnceCompleted, exec_startWindowExpiry, owedToWindow_short_of_tick restarting window short]
  exact ⟨fun completed => congrArg _ (ends completed), fun uncompleted => congrArg _ (waits uncompleted)⟩

theorem restartMissingEdge_lost (watched : s.startWindow = none) (missing : 4 ≤ s.missingCycles) :
    EndsOnceCompleted .restartMissingEdge s (restartEnded .backup .restoreFailed s s.divider) := by
  obtain ⟨ends, waits⟩ := passTo_ends restartMissingEdge_ends (owed := []) (s := s) rfl rfl rfl
    ((restartLost_iff s).mpr ⟨restarting, watched, missing⟩)
  rw [EndsOnceCompleted, exec_restartMissingEdge, owedToMissingEdge_none (.inr missing)]
  exact ⟨fun completed => congrArg _ (ends completed), fun uncompleted => congrArg _ (waits uncompleted)⟩

theorem restartMissingEdge_soon (watched : s.startWindow = none) (early : s.missingCycles < 4)
    (short : 4 - s.missingCycles + s.divider.val < 8) (running : s.phase = .running) (due : dueEvents s = []) :
    EndsOnceCompleted .restartMissingEdge s
      (restartEnded .backup .restoreFailed s (Fin.ofNat 8 (s.divider.val + (4 - s.missingCycles)))) := by
  have passed := passCycles_silent (4 - s.missingCycles) s restarting watched
    (show s.missingCycles + (4 - s.missingCycles) ≤ 4 by omega) (by omega) running due
  obtain ⟨ends, waits⟩ := passTo_ends restartMissingEdge_ends passed rfl rfl
    ((restartLost_iff _).mpr ⟨restarting, watched, show 4 ≤ s.missingCycles + (4 - s.missingCycles) by omega⟩)
  rw [EndsOnceCompleted, exec_restartMissingEdge, owedToMissingEdge_watched restarting watched]
  exact ⟨fun completed => congrArg _ (ends completed), fun uncompleted => congrArg _ (waits uncompleted)⟩

theorem restartMissingEdge_later (watched : s.startWindow = none) (early : s.missingCycles < 4)
    (long : 8 ≤ 4 - s.missingCycles + s.divider.val) (running : s.phase = .running) (due : dueEvents s = []) :
    exec .restartMissingEdge s = .next s := by
  rw [exec_restartMissingEdge, owedToMissingEdge_watched restarting watched,
    passTo_ticked (passCycles_silent_ticks restarting watched (by omega) long running due)]

theorem restartSuccess_soon (watched : s.startWindow = none) (progress : s.restartProgress = 16383)
    (running : s.phase = .running) (due : dueEvents s = []) :
    EndsOnceCompleted .restartSuccess s (restartEnded .main .main s s.divider) := by
  have owed : owedToProving s = [.main] := if_pos ⟨restarting, watched, congrArg (· + 1) progress⟩
  have passed := passCycles_goodCycle restarting watched running due progress
  obtain ⟨ends, waits⟩ := passTo_ends restartSuccess_ends passed rfl rfl
    ((restartProven_iff _).mpr ⟨restarting, watched, le_rfl⟩)
  rw [EndsOnceCompleted, exec_restartSuccess, owed]
  exact ⟨fun completed => congrArg _ (ends completed), fun uncompleted => congrArg _ (waits uncompleted)⟩

theorem restartSuccess_proven (watched : s.startWindow = none) (progress : 16384 ≤ s.restartProgress) :
    EndsOnceCompleted .restartSuccess s (restartEnded .main .main s s.divider) := by
  obtain ⟨ends, waits⟩ := passTo_ends restartSuccess_ends (owed := []) (s := s) rfl rfl rfl
    ((restartProven_iff s).mpr ⟨restarting, watched, progress⟩)
  rw [EndsOnceCompleted, exec_restartSuccess, owedToProving_none fun ⟨_, _, last⟩ => by omega]
  exact ⟨fun completed => congrArg _ (ends completed), fun uncompleted => congrArg _ (waits uncompleted)⟩

end

/-- Settles O34: the request, then the events of a restart by its start window, and outside a restart. -/
theorem restartBeginsAndEnds : Obligations.RestartBeginsAndEnds := by
  have restore : Runs .restoreClock 0x57 requestRestoreClock := fun _ => rfl
  refine ⟨fun s j held opened => ⟨fun other => ?_, fun holder => ?_⟩,
    fun s restarting => ⟨fun left window => ?_, fun watched => ?_⟩, fun s other => ?_⟩
  · exact restore.answers held (gated_other (parsed := parseNone []) (a := ()) opened rfl other _)
  · obtain ⟨backup, main, busy⟩ := requestRestoreClock_holder opened holder
    exact ⟨fun clock => restore.answers held (backup clock), fun clock => restore.answers held (main clock),
      fun clock => restore.answers held (busy clock)⟩
  · refine ⟨fun positive => ?_, fun out => ?_, ?_, ?_, fun out completed => ?_, fun out uncompleted => ?_,
      fun positive short quiet => ?_, fun positive long => ?_⟩
    · rw [exec_firstMainEdge, firstMainEdge_in_window restarting window positive]
    · rw [exec_firstMainEdge, firstMainEdge_outside]
      intro left' window'
      rw [window] at window'
      cases window'
      exact out
    · exact restartMissingEdge_idle fun _ => by simp [window]
    · exact restartSuccess_idle fun _ watched => by simp [window] at watched
    · subst out
      exact (startWindowExpiry_out restarting window).1 completed
    · subst out
      exact (startWindowExpiry_out restarting window).2 uncompleted
    · exact startWindowExpiry_soon restarting window short quiet.1 quiet.2
    · refine startWindowExpiry_idle fun _ left' window' => ?_
      rw [window] at window'
      cases window'
      exact ⟨positive, long⟩
  · refine ⟨?_, ?_, fun missing => ?_, fun missing => ?_, fun early quiet => ⟨fun short => ?_, fun long => ?_⟩,
      fun few => ?_, fun last quiet => ?_, fun full => ?_, fun full => ?_⟩
    · rw [exec_firstMainEdge, firstMainEdge_outside fun left window => by simp [watched] at window]
    · exact startWindowExpiry_idle fun _ left window => by simp [watched] at window
    · exact (restartMissingEdge_lost restarting watched missing).1
    · exact (restartMissingEdge_lost restarting watched missing).2
    · exact restartMissingEdge_soon restarting watched early short quiet.1 quiet.2
    · exact restartMissingEdge_later restarting watched early long quiet.1 quiet.2
    · exact restartSuccess_idle fun _ _ => few
    · exact restartSuccess_soon restarting watched last quiet.1 quiet.2
    · exact (restartSuccess_proven restarting watched full).1
    · exact (restartSuccess_proven restarting watched full).2
  · refine ⟨?_, restartMissingEdge_idle fun restarting => absurd restarting other,
      restartSuccess_idle fun restarting => absurd restarting other,
      startWindowExpiry_idle fun restarting => absurd restarting other⟩
    rw [exec_firstMainEdge, firstMainEdge, if_neg fun due => other ((firstEdgeDue_iff s).mp due).1]

end Sys2Proof.Machine
end

section
/-!
PROOF. Accepted edges: what the filter confirms, and where the record of an edge goes (R99, R101, R108).
-/

namespace Sys2Proof.Machine

theorem exec_acceptedEdge (i : InputId) (s : State) : exec (.acceptedEdge i) s = .next (tryAcceptEdge i s) := rfl

theorem confirmedLatch_iff (i : InputId) (s : State) (latch : Latch) :
    confirmedLatch i s = some latch
      ↔ (s.input i).pending = some latch ∧ s.filterTicks i ≤ distanceAhead s.run latch.run := by
  rw [confirmedLatch, Option.filter_eq_some_iff, hasAdvanced_iff]

theorem tryAcceptEdge_confirmed {i : InputId} {s : State} {latch : Latch} (pending : (s.input i).pending = some latch)
    (run : s.filterTicks i ≤ distanceAhead s.run latch.run) : tryAcceptEdge i s = acceptEdge i latch s := by
  rw [tryAcceptEdge, (confirmedLatch_iff i s latch).mpr ⟨pending, run⟩]

theorem tryAcceptEdge_early {i : InputId} {s : State}
    (early : ∀ latch, (s.input i).pending = some latch → distanceAhead s.run latch.run < s.filterTicks i) :
    tryAcceptEdge i s = s := by
  have unconfirmed : confirmedLatch i s = none := Option.eq_none_iff_forall_ne_some.mpr fun latch confirmed => by
    obtain ⟨pending, run⟩ := (confirmedLatch_iff i s latch).mp confirmed
    exact absurd (early latch pending) (by omega)
  rw [tryAcceptEdge, unconfirmed]

/-- A subscription matches an edge when its choice includes it (R101). -/
theorem includes_iff (choice : EdgeChoice) (edge : EdgeKind) :
    choice.includes edge = true ↔ choice = .both ∨ choice = .rise ∧ edge = .rise ∨ choice = .fall ∧ edge = .fall := by
  cases choice <;> cases edge <;> decide

theorem deliver_matching {i : InputId} {edge : EdgeKind} {r : Client} (record : CaptureRecord)
    (matching : r.sub i = some .both ∨ r.sub i = some .rise ∧ edge = .rise ∨ r.sub i = some .fall ∧ edge = .fall) :
    deliver i edge record r = { r with captures := placeCapture record r.captures } := by
  obtain ⟨choice, sub, includes⟩ : ∃ choice, r.sub i = some choice ∧ choice.includes edge = true := by
    rcases matching with both | ⟨rise, rfl⟩ | ⟨fall, rfl⟩
    · exact ⟨_, both, (includes_iff ..).mpr (.inl rfl)⟩
    · exact ⟨_, rise, rfl⟩
    · exact ⟨_, fall, rfl⟩
  rw [deliver, sub]
  exact if_pos includes

theorem deliver_other {i : InputId} {edge : EdgeKind} {r : Client} (record : CaptureRecord)
    (other : ¬(r.sub i = some .both ∨ r.sub i = some .rise ∧ edge = .rise ∨ r.sub i = some .fall ∧ edge = .fall)) :
    deliver i edge record r = r := by
  cases sub : r.sub i with
  | none => rw [deliver, sub]
  | some choice =>
    rw [deliver, sub]
    refine if_neg fun includes => other ?_
    rw [sub]
    simpa only [Option.some.injEq] using (includes_iff choice edge).mp includes

/-! ## The place of a record -/

theorem placeCapture_room {r : CaptureRecord} {q : List CaptureRecord} (room : q.length < 15) :
    placeCapture r q = q ++ [r] := if_pos room

theorem placeCapture_onto_gap {r : CaptureRecord} {older : List CaptureRecord} {n : Nat}
    (full : 15 ≤ (older ++ [CaptureRecord.gap n]).length) :
    placeCapture r (older ++ [.gap n]) = older ++ [.gap (min (n + 1) 65535)] := by
  rw [placeCapture, if_neg (not_lt.mpr full : ¬_ < Config.captureRoom), List.getLast?_concat, List.dropLast_concat]

theorem placeCapture_first_gap {r : CaptureRecord} {q : List CaptureRecord} (full : q.length = 15)
    (real : newestIsGap q = false) : placeCapture r q = q ++ [.gap 1] := by
  rw [placeCapture, if_neg (not_lt.mpr full.ge : ¬_ < Config.captureRoom)]
  cases newest : q.getLast? with
  | none => rfl
  | some last =>
    cases last with
    | real => rfl
    | gap n => simp [newestIsGap, newest, CaptureRecord.isGap] at real

/-- Settles O5: the input's record, the delivery client by client, and the place in a queue. -/
theorem acceptedEdgeIsRecordedAndDelivered : Obligations.AcceptedEdgeIsRecordedAndDelivered := by
  refine ⟨fun i s latch pending run => ?_, fun i s early => ?_,
    fun r q => ⟨placeCapture_room, ?_, placeCapture_first_gap⟩⟩
  · have accepted := tryAcceptEdge_confirmed pending run
    refine ⟨acceptEdge i latch s, (exec_acceptedEdge i s).trans (congrArg _ accepted), rfl, ?_, fun k other => ?_,
      fun c => ?_⟩
    · rw [← otherLevel_eq]
      exact (input_setInput s i i _).trans (if_pos rfl)
    · exact (input_setInput s i k _).trans (if_neg (Ne.symm other))
    · rw [client_acceptEdge, ← edgeFrom_eq]
      exact ⟨deliver_matching _, deliver_other _⟩
  · rw [exec_acceptedEdge, tryAcceptEdge_early early]
  · rintro older n rfl full
    exact placeCapture_onto_gap full

end Sys2Proof.Machine
end

section
/-!
PROOF. The end of a session: what a teardown leaves of the client, its entries, its lines and the other clients (R50,
R121, R122), and the two commands that make one (R116, R120).
-/

namespace Sys2Proof.Machine

/-! ## The departure of one line -/

theorem OnlyCalendar.refl (s : State) : OnlyCalendar s s := rfl

theorem OnlyCalendar.trans {s t u : State} (h : OnlyCalendar s t) (k : OnlyCalendar t u) : OnlyCalendar s u := by
  rw [OnlyCalendar] at h k ⊢
  rw [k, h]

theorem passOn_onlyCalendar (l : LineId) (s : State) : OnlyCalendar s (passOn l s) :=
  .of_onlyNotices _ s.slots (passOn_onlyNotices l s)

/-- The departing lines touch lines, slots and clients only (R50). -/
theorem departLine_onlyCalendar (c : ClientId) (l : LineId) (s : State) : OnlyCalendar s (departLine c l s) := by
  unfold departLine
  split
  next lease _ =>
    split
    next =>
      have cut : OnlyCalendar s ((withdrawOnLine c l s).setLine l
          { ((withdrawOnLine c l s).line l).cut with level := lease.park }) := rfl
      exact cut.trans (passOn_onlyCalendar l _)
    next => exact .refl s
  next => exact .refl s

theorem departLines_onlyCalendar (c : ClientId) (s : State) : OnlyCalendar s (departLines c s) :=
  foldl_keeps (OnlyCalendar s) _ _ _ (fun _ l _ h => h.trans (departLine_onlyCalendar c l _)) (.refl s)

/-- The departure of a line removes entries of the client, if any (R50 step 1). -/
theorem slot_departLine (c : ClientId) (l : LineId) (s : State) (k : SlotId) :
    (departLine c l s).slot k = s.slot k
      ∨ (departLine c l s).slot k = (s.slot k).filter fun e => !(e.owner == c && e.body.line == l) := by
  unfold departLine
  split
  · split
    · refine .inr ?_
      rw [(passOn_onlyNotices l _).slot, slot_setLine, slot_setLine, withdrawOnLine, slot_removeEntries]
    · exact .inl rfl
  · exact .inl rfl

/-- Where no entry of the client stands, the departures touch no slot. -/
theorem slot_departLines {c : ClientId} {s : State} {k : SlotId} (bare : ∀ e, s.slot k = some e → e.owner ≠ c) :
    (departLines c s).slot k = s.slot k := by
  refine foldl_keeps (fun u : State => u.slot k = s.slot k) _ _ _ (fun u l _ same => ?_) rfl
  rcases slot_departLine c l u k with kept | filtered
  · exact kept.trans same
  · rw [filtered, same]
    cases held : s.slot k with
    | none => rfl
    | some e => simp [Option.filter, bare e held]

/-- The other client that a departing line is granted to (R50 step 3). -/
def grantsTo (c d : ClientId) (r : Line) : Bool := r.heldBy c && r.waiters.head?.any fun w => w.client == d

/-- A departing line is granted to its head waiter, who is told, and to nobody else (R52). -/
theorem client_departLine (c d : ClientId) (l : LineId) (s : State) :
    (departLine c l s).client d
      = if grantsTo c d (s.line l) then (postNotice d .granted (BitVec.ofNat 16 l.val) .granted 0 s).client d
        else s.client d := by
  unfold departLine grantsTo Line.heldBy Line.holder
  cases (s.line l).lease with
  | none => simp
  | some lease =>
    by_cases own : lease.client = c
    · dsimp only
      rw [if_pos own]
      have list : ((withdrawOnLine c l s).setLine l
          { ((withdrawOnLine c l s).line l).cut with level := lease.park }).line l
            = { (s.line l).cut with level := lease.park } := (line_setLine ..).trans (if_pos rfl)
      cases waiters : (s.line l).waiters with
      | nil =>
        rw [passOn_free (by rw [list]; exact waiters)]
        simp only [List.head?_nil, Option.any_none, Bool.and_false, Bool.false_eq_true, if_false]
        rfl
      | cons w ws =>
        rw [passOn_waiter (w := w) (ws := ws) (by rw [list]; exact waiters)]
        by_cases granted : w.client = d
        · rw [granted]
          simp only [List.head?_cons, Option.any_some, Option.map_some, own, granted, BEq.rfl, Bool.and_self, if_true]
          exact client_postNotice_congr _ _ _ _ _ rfl rfl
        · rw [client_postNotice_other _ _ _ _ _ _ _ granted]
          simp only [List.head?_cons, Option.any_some, beq_false_of_ne granted, Bool.and_false, Bool.false_eq_true,
            if_false]
          rfl
    · simp [own]

/-- The lines depart in their order, each with its own GRANTED (R50, R52). -/
theorem client_foldl_departLine (c d : ClientId) (ls : List LineId) (distinct : ls.Nodup) {s u : State}
    (client : s.client d = u.client d) (run : s.run = u.run) :
    (ls.foldl (fun s l => departLine c l s) s).client d
      = (postGranted d (ls.filter fun l => grantsTo c d (s.line l)) u).client d := by
  induction ls generalizing s u with
  | nil => exact client
  | cons l ls ih =>
    obtain ⟨outside, distinct⟩ := List.nodup_cons.mp distinct
    have others : ls.filter (fun m => grantsTo c d ((departLine c l s).line m))
        = ls.filter fun m => grantsTo c d (s.line m) := by
      refine List.filter_congr fun m mem => ?_
      rw [line_departLine, if_neg fun same : l = m => outside (same ▸ mem)]
    have departed := client_departLine c d l s
    have ran : (departLine c l s).run = s.run := (departLine_moved c l s).run
    rw [List.foldl_cons, List.filter_cons]
    split
    next granted =>
      rw [if_pos granted] at departed
      rw [← others]
      refine ih distinct (departed.trans (client_postNotice_congr _ _ _ _ _ client run)) (ran.trans (run.trans ?_))
      exact (postNotice_onlyNotices d .granted (BitVec.ofNat 16 l.val) .granted 0 u).run.symm
    next kept =>
      rw [if_neg kept] at departed
      rw [← others]
      exact ih distinct (departed.trans client) (ran.trans run)

/-! ## Before the departures -/

section
variable (c : ClientId) (s : State)

theorem freeAuthority_frame :
    freeAuthority c s = { s with authority := (freeAuthority c s).authority, armed := (freeAuthority c s).armed } := by
  unfold freeAuthority
  split <;> rfl

theorem client_freeAuthority (d : ClientId) : (freeAuthority c s).client d = s.client d := by
  rw [freeAuthority_frame]
  rfl

theorem teardownStart_frame :
    teardownStart c s
      = { s with authority := (freeAuthority c s).authority, armed := (freeAuthority c s).armed,
                 clients := (teardownStart c s).clients, lines := (teardownStart c s).lines,
                 slots := (teardownStart c s).slots } := by
  have frame := freeAuthority_frame c s
  rw [teardownStart, withdrawAll, removeEntries, leaveAllQueues, clearSubscriptions, State.modifyClient,
    State.setClient, frame]

theorem client_teardownStart (d : ClientId) :
    (teardownStart c s).client d
      = if c = d then { s.client c with subs := Vector.replicate 4 none } else s.client d := by
  rw [teardownStart, withdrawAll, client_removeEntries, client_leaveAllQueues, clearSubscriptions,
    client_modifyClient, client_freeAuthority, client_freeAuthority]

theorem line_teardownStart (l : LineId) :
    (teardownStart c s).line l
      = { s.line l with waiters := (s.line l).waiters.filter fun w => w.client != c } := by
  have same : ∀ u : State, (withdrawAll c (leaveAllQueues c u)).line l
      = { u.line l with waiters := (u.line l).waiters.filter fun w => w.client != c } :=
    fun u => line_leaveAllQueues u c l
  have freed : (freeAuthority c s).line l = s.line l := by
    rw [freeAuthority_frame]
    rfl
  rw [teardownStart, same, ← freed]
  rfl

theorem slot_teardownStart (k : SlotId) :
    (teardownStart c s).slot k = (s.slot k).filter fun e => e.owner != c := by
  have freed : (freeAuthority c s).slot k = s.slot k := by
    rw [freeAuthority_frame]
    rfl
  rw [teardownStart, withdrawAll, slot_removeEntries, ← freed]
  rfl

/-- The lines that a teardown grants to another client (R50 step 3, R121 step 3). -/
theorem grantsTo_teardownStart (d : ClientId) :
    (allLines.filter fun l => grantsTo c d ((teardownStart c s).line l)) = grantedAt c d s :=
  List.filter_congr fun l _ => by rw [line_teardownStart]; rfl

end

/-- The departure of a line from which the client's own waiter records are gone (R50, R121 steps 3 and 5). -/
theorem departedLine_departed (c : ClientId) (supply : SupplyState) (idle : Level) (r : Line) :
    DepartedLine c supply idle r
      (Line.departed c supply idle { r with waiters := r.waiters.filter fun w => w.client != c }) := by
  unfold DepartedLine Line.departed
  cases r.lease with
  | none => rfl
  | some lease =>
    dsimp only
    by_cases own : lease.client = c
    · rw [if_pos own, if_pos own]
      simp only [Line.handedOn, Line.cut]
      cases r.waiters.filter fun w => w.client != c with
      | nil => rfl
      | cons w ws => cases supply <;> rfl
    · rw [if_neg own, if_neg own]

/-! ## The teardown -/

theorem teardown_frame (c : ClientId) (after : Session) (s : State) :
    teardown c after s
      = { s with authority := (freeAuthority c s).authority, armed := (freeAuthority c s).armed,
                 clients := (teardown c after s).clients, lines := (teardown c after s).lines,
                 slots := (teardown c after s).slots, choice := if s.choice = some c then none else s.choice } := by
  have start := teardownStart_frame c s
  have departs : OnlyCalendar (teardownStart c s) (departLines c (teardownStart c s)) := departLines_onlyCalendar c _
  rw [OnlyCalendar] at departs
  rw [teardown_eq, clearClient, State.modifyClient, State.setClient, departs, start]

theorem authority_teardown (c : ClientId) (s : State) :
    (s.authority = some c → (freeAuthority c s).authority = none ∧ (freeAuthority c s).armed = none)
    ∧ (s.authority ≠ some c → (freeAuthority c s).authority = s.authority ∧ (freeAuthority c s).armed = s.armed) := by
  refine ⟨fun holder => ?_, fun other => ?_⟩
  · rw [freeAuthority, if_pos holder]
    exact ⟨rfl, rfl⟩
  · rw [freeAuthority, if_neg other]
    exact ⟨rfl, rfl⟩

theorem client_teardown_own (c : ClientId) (after : Session) (s : State) :
    (teardown c after s).client c = { Client.reset with session := after, marks := (s.client c).marks } := by
  obtain ⟨ns, lost, departed⟩ := (departLines_moved c (teardownStart c s)).client c
  rw [teardown_eq, client_clearClient, if_pos rfl, departed, client_teardownStart, if_pos rfl]
  rfl

theorem client_teardown_other {c d : ClientId} (other : d ≠ c) (after : Session) (s : State) :
    (teardown c after s).client d = (postGranted d (grantedAt c d s) s).client d := by
  have frame := teardownStart_frame c s
  have run : (teardownStart c s).run = s.run := (congrArg State.run frame).trans rfl
  rw [teardown_eq, client_clearClient, if_neg other.symm, departLines,
    client_foldl_departLine c d allLines (by decide) ((client_teardownStart c s d).trans (if_neg other.symm)) run,
    grantsTo_teardownStart]

theorem slot_clearClient (c : ClientId) (after : Session) (s : State) (k : SlotId) :
    (clearClient c after s).slot k = s.slot k := rfl

theorem line_clearClient (c : ClientId) (after : Session) (s : State) (l : LineId) :
    (clearClient c after s).line l = s.line l := rfl

theorem slot_teardown (c : ClientId) (after : Session) (s : State) (k : SlotId) :
    (teardown c after s).slot k = (s.slot k).filter fun e => e.owner != c := by
  rw [← slot_teardownStart, teardown_eq, slot_clearClient]
  refine slot_departLines fun e stands => ?_
  rw [slot_teardownStart, Option.filter_eq_some_iff] at stands
  exact bne_iff_ne.mp stands.2

theorem line_teardown (c : ClientId) (after : Session) (s : State) (l : LineId) :
    DepartedLine c s.supplyState (s.idleLevel l) (s.line l) ((teardown c after s).line l) := by
  have frame := teardownStart_frame c s
  have supply : (teardownStart c s).supplyState = s.supplyState := (congrArg State.supplyState frame).trans rfl
  have idle : (teardownStart c s).idleLevel l = s.idleLevel l := (congrArg (State.idleLevel · l) frame).trans rfl
  have departed := line_departLines c (teardownStart c s) l
  rw [line_teardownStart, supply, idle] at departed
  rw [teardown_eq, line_clearClient, departed]
  exact departedLine_departed ..

/-- What a teardown does, and what it leaves (R121, R122). -/
theorem teardown_tornDown (c : ClientId) (after : Session) (s : State) : TornDown c after s (teardown c after s) := by
  have frame := teardown_frame c after s
  have authority : (teardown c after s).authority = (freeAuthority c s).authority :=
    (congrArg State.authority frame).trans rfl
  have armed : (teardown c after s).armed = (freeAuthority c s).armed := (congrArg State.armed frame).trans rfl
  have choice : (teardown c after s).choice = if s.choice = some c then none else s.choice :=
    (congrArg State.choice frame).trans rfl
  obtain ⟨token, others⟩ := authority_teardown c s
  constructor
  case own => exact client_teardown_own c after s
  case token => rwa [authority, armed]
  case others => rwa [authority, armed]
  case entries => exact slot_teardown c after s
  case useCounts => exact (congrArg State.useCounts frame).trans rfl
  case lines => exact line_teardown c after s
  case clients => exact fun d other => client_teardown_other other after s
  case choice => exact choice
  case rest =>
    rw [authority, armed, choice]
    exact frame

/-! ## Expiry and CLOSE -/

theorem exec_keepaliveExpiry (c : ClientId) (s : State) :
    exec (.keepaliveExpiry c) s = .next (expireKeepalive c s) := rfl

theorem expireKeepalive_opened {c : ClientId} {s : State} {d : SessionData}
    (session : (s.client c).session = .opened d) :
    expireKeepalive c s = if d.deadline = s.run then teardown c .lapsed s else s := by
  rw [expireKeepalive, session]

theorem expireKeepalive_not_open {c : ClientId} {s : State} (closed : s.isOpen c = false) :
    expireKeepalive c s = s := by
  unfold expireKeepalive
  split
  next d session => simp [State.isOpen, Client.isOpen, session, Session.data?] at closed
  next => rfl
  next => rfl

theorem requestClose_opened {c : ClientId} {s : State} (opened : s.isOpen c = true) :
    requestClose c [] s
      = (teardown c .closed s, .ok,
          [byteOf (linesHeld c s), byteOf (s.entryCount c), byteOf (s.client c).notices.length,
            byteOf (s.client c).captures.length]) := whenOpen_withParams_nil opened _

/-- Settles O13: both commands tear the client down. -/
theorem expiryAndCloseTearTheClientDown : Obligations.ExpiryAndCloseTearTheClientDown := by
  have close : Runs .closeSession 0x11 requestClose := fun _ => rfl
  refine ⟨fun c s d session => ⟨fun due => ?_, fun early => ?_⟩, fun c s closed => ?_, fun s j held opened => ?_⟩
  · refine ⟨teardown c .lapsed s, ?_, teardown_tornDown c .lapsed s⟩
    rw [exec_keepaliveExpiry, expireKeepalive_opened session, if_pos due]
  · rw [exec_keepaliveExpiry, expireKeepalive_opened session, if_neg early]
  · rw [exec_keepaliveExpiry, expireKeepalive_not_open closed]
  · exact ⟨teardown j.client .closed s, teardown_tornDown j.client .closed s,
      close.answers held (requestClose_opened opened)⟩

end Sys2Proof.Machine
end

section
/-!
PROOF. The requests of sessions and the reports: what OPEN does, and what the requests that change nothing but their reply
answer (R15, R45, R66, R114, R118, R119, R146, R176).
-/

namespace Sys2Proof.Machine

/-! ## OPEN -/

/-- The parameters of OPEN are two bytes of a period and the code of a mask (R114). -/
theorem parseOpen_bytes {p : Nat} (fits : p < 65536) (mask : Byte) :
    parseOpen (beBytes 2 p ++ [mask])
      = if 10 ≤ p && p ≤ 60000 then (maskOfCode mask).map fun k => (p, k) else none := by
  have number : beNat (beBytes 2 p) = p := beNat_beBytes 2 p (by simpa using fits)
  change (if 10 ≤ beNat (beBytes 2 p) && beNat (beBytes 2 p) ≤ 60000 then
    (maskOfCode mask).map fun k => (beNat (beBytes 2 p), k) else none) = _
  rw [number]

theorem maskOfCode_none {mask : Byte} (large : 3 < mask.toNat) : maskOfCode mask = none := by
  revert mask
  decide

theorem parseOpen_out_of_range {p : Nat} (fits : p < 65536) {mask : Byte}
    (outside : p < 10 ∨ 60000 < p ∨ 3 < mask.toNat) : parseOpen (beBytes 2 p ++ [mask]) = none := by
  rw [parseOpen_bytes fits]
  rcases outside with short | long | unnamed
  · exact if_neg (by simp; omega)
  · exact if_neg (by simp; omega)
  · rw [maskOfCode_none unnamed]
    exact ite_self _

theorem parseOpen_in_range {p : Nat} (least : 10 ≤ p) (most : p ≤ 60000) (mask : AttentionMask) :
    parseOpen (beBytes 2 p ++ [maskCode mask]) = some (p, mask) := by
  rw [parseOpen_bytes (by omega), if_pos (by simp [least, most]), maskOfCode_maskCode]
  rfl

theorem requestOpen_disabled {c : ClientId} {s : State} (disabled : s.isEnabled c = false) (ps : List Byte) :
    requestOpen c ps s = (s, .disabled, []) := if_pos (by simp [disabled])

theorem requestOpen_invalid {c : ClientId} {s : State} {ps : List Byte} (enabled : s.isEnabled c = true)
    (unparsed : parseOpen ps = none) : requestOpen c ps s = (s, .invalid, []) := by
  rw [requestOpen, if_neg (by simp [enabled]), unparsed]
  rfl

theorem requestOpen_valid {c : ClientId} {s : State} {ps : List Byte} {p : Nat} {mask : AttentionMask}
    (enabled : s.isEnabled c = true) (parses : parseOpen ps = some (p, mask)) :
    requestOpen c ps s
      = (s.setClient c { s.client c with
            session := .opened { period := p, deadline := s.run + BitVec.ofNat 48 (p * 1000), mask := mask } },
          if s.isOpen c then .already else .ok,
          [sessionCode (s.client c).session] ++ beBytes 4 (p * 1000)) := by
  rw [requestOpen, if_neg (by simp [enabled]), parses]
  rfl

/-- Settles O14: DISABLED, INVALID, and the session that is started or updated. -/
theorem openStartsOrUpdatesASession : Obligations.OpenStartsOrUpdatesASession := by
  have row : Runs .openSession 0x10 requestOpen := fun _ => rfl
  refine ⟨fun s j ps held disabled => ?_, fun s j p mask held enabled fits outside => ?_,
    fun s j p mask held enabled least most => ?_⟩
  · exact row.answers held (requestOpen_disabled disabled ps)
  · exact row.answers held (requestOpen_invalid enabled (parseOpen_out_of_range fits outside))
  · exact row.answers held (requestOpen_valid enabled (parseOpen_in_range least most mask))

/-! ## HEARTBEAT and SET_ATTENTION -/

theorem requestHeartbeat_opened {c : ClientId} {s : State} {d : SessionData}
    (session : (s.client c).session = .opened d) :
    requestHeartbeat c [] s
      = (s, .ok, [byteOf (s.client c).notices.length, byteOf (s.client c).captures.length]
          ++ beBytes 4 ((d.deadline.toNat + 2 ^ 48 - s.run.toNat) % 2 ^ 48)) := by
  rw [requestHeartbeat, whenOpen_withParams_nil (isOpen_of_session session)]
  dsimp only
  rw [session]
  simp only [distanceAhead, distance_eq]

theorem requestSetAttention_opened {c : ClientId} {s : State} {d : SessionData}
    (session : (s.client c).session = .opened d) (mask : AttentionMask) :
    requestSetAttention c [maskCode mask] s
      = (s.setClient c { s.client c with session := .opened { d with mask := mask } }, .ok, [maskCode d.mask]) := by
  have parses : parseMask [maskCode mask] = some mask := maskOfCode_maskCode mask
  rw [requestSetAttention, whenOpen_withParams_some (isOpen_of_session session) parses, session]

/-! ## LINE_STATUS -/

/-- One of the three waiter bytes, from the head (R45). -/
def waiterByte (ws : List Waiter) (n : Nat) : Byte := optClientCode (ws[n]?.map Waiter.client)

theorem waiterByte_some {ws : List Waiter} {n : Nat} {w : Waiter} (stands : ws[n]? = some w) :
    waiterByte ws n = byteOf w.client.val := by
  rw [waiterByte, stands]
  rfl

theorem waiterByte_none {ws : List Waiter} {n : Nat} (short : ws.length ≤ n) : waiterByte ws n = 0xFF := by
  rw [waiterByte, List.getElem?_eq_none short]
  rfl

theorem requestLineStatus_opened {c : ClientId} {s : State} (opened : s.isOpen c = true) (l : LineId) :
    requestLineStatus c [byteOf l.val] s
      = (s, .ok,
          [flagCode (s.line l).lease.isSome, optClientCode ((s.line l).lease.map Lease.client),
            levelCode (s.line l).level, optLevelCode ((s.line l).lease.map Lease.park),
            driveModeCode (s.driveMode l), flagCode (s.line l).pulse.isSome, byteOf (s.line l).waiters.length,
            waiterByte (s.line l).waiters 0, waiterByte (s.line l).waiters 1, waiterByte (s.line l).waiters 2]) :=
  whenOpen_withParams_some opened (parseLine_byteOf l) _

/-! ## QUERY_ENTRY -/

theorem parseHandle_beBytes (h : Handle) : parseHandle (beBytes 2 h.toNat) = some h := by
  have number := ofNat_beNat_beBytes 2 h (by norm_num)
  change some (BitVec.ofNat 16 (beNat (beBytes 2 h.toNat))) = _
  rw [number]

/-- A handle names the entry of its slot that has it, for its owner (R57). -/
theorem findEntry_iff (c : ClientId) (h : Handle) (s : State) (e : Entry) :
    findEntry c h s = some e ↔ s.slot (slotOf h) = some e ∧ e.handle = h ∧ e.owner = c := by
  unfold findEntry
  split
  next f held =>
    simp only [held, Option.some.injEq, Option.ite_none_right_eq_some, Bool.and_eq_true, beq_iff_eq]
    constructor
    · rintro ⟨own, rfl⟩
      exact ⟨rfl, own⟩
    · rintro ⟨rfl, own⟩
      exact ⟨own, rfl⟩
  next empty => simp [empty]

theorem findEntry_none {c : ClientId} {h : Handle} {s : State}
    (nobody : ∀ k e, s.slot k = some e → e.handle = h → e.owner ≠ c) : findEntry c h s = none :=
  Option.eq_none_iff_forall_ne_some.mpr fun e found => by
    obtain ⟨stands, named, own⟩ := (findEntry_iff c h s e).mp found
    exact nobody _ e stands named own

/-- A signed distance in two's complement is the distance ahead (R59, R179). -/
theorem toNat_ofInt_signedDistance (t c : Count) :
    (BitVec.ofInt 48 (signedDistance t c)).toNat = (t.toNat + 2 ^ 48 - c.toNat) % 2 ^ 48 := by
  have ahead : distanceAhead t c = (t.toNat + 2 ^ 48 - c.toNat) % 2 ^ 48 := distance_eq t c
  have back : distanceAhead c t = (c.toNat + 2 ^ 48 - t.toNat) % 2 ^ 48 := distance_eq c t
  have t_small := t.isLt
  have c_small := c.isLt
  rw [signedDistance, BitVec.toNat_ofInt]
  split
  · omega
  · omega

theorem requestQueryEntry_found {c : ClientId} {h : Handle} {s : State} {e : Entry} (opened : s.isOpen c = true)
    (found : findEntry c h s = some e) :
    requestQueryEntry c (beBytes 2 h.toNat) s
      = (s, .ok, bookingBytes e.body ++ beBytes 6 ((e.body.due.toNat + 2 ^ 48 - s.timebase.toNat) % 2 ^ 48)) := by
  rw [requestQueryEntry, whenOpen_withParams_some opened (parseHandle_beBytes h), found,
    ← toNat_ofInt_signedDistance]
  rfl

theorem requestQueryEntry_not_found {c : ClientId} {h : Handle} {s : State} (opened : s.isOpen c = true)
    (missing : findEntry c h s = none) : requestQueryEntry c (beBytes 2 h.toNat) s = (s, .notFound, []) := by
  rw [requestQueryEntry, whenOpen_withParams_some opened (parseHandle_beBytes h), missing]
  rfl

/-! ## READ_OPTIONS -/

theorem requestReadOptions_opened {c : ClientId} {s : State} (opened : s.isOpen c = true) :
    requestReadOptions c [] s
      = (s, .ok, imageBytes s.options ++ [optionStatusCode s.optionStatus] ++ storeBytes s.store) :=
  whenOpen_withParams_nil opened _

/-- Settles O15: each of the reports, as its request answers it. -/
theorem reportingRequestsChangeOnlyTheReply : Obligations.ReportingRequestsChangeOnlyTheReply := by
  have heartbeat : Runs .heartbeat 0x12 requestHeartbeat := fun _ => rfl
  have info : Runs .info 0x14 requestInfo := fun _ => rfl
  have readTime : Runs .readTime 0x50 requestReadTime := fun _ => rfl
  have setAttention : Runs .setAttention 0x13 requestSetAttention := fun _ => rfl
  have queryEntry : Runs .queryEntry 0x34 requestQueryEntry := fun _ => rfl
  have readOptions : Runs .readOptions 0x60 requestReadOptions := fun _ => rfl
  refine ⟨fun s j d held session => heartbeat.answers held (requestHeartbeat_opened session),
    fun s j held => info.answers held rfl,
    fun s j held opened => readTime.answers held (whenOpen_withParams_nil opened _),
    fun s j d mask held session => setAttention.answers held (requestSetAttention_opened session mask),
    fun s j l held opened => ?lineStatus, fun s j h held opened => ⟨?found, fun nobody => ?missing⟩,
    fun s j held opened => ⟨fun idle => ?idle, fun job storing => ?storing⟩⟩
  case lineStatus =>
    refine ⟨waiterByte (s.line l).waiters 0, waiterByte (s.line l).waiters 1, waiterByte (s.line l).waiters 2,
      exec_lineStatus_of_answer held ((requestLineStatus_opened opened l).trans ?_), fun _ => waiterByte_some,
      fun _ => waiterByte_some, fun _ => waiterByte_some, waiterByte_none, waiterByte_none, waiterByte_none⟩
    cases (s.line l).lease <;> rfl
  case found =>
    rintro k e stands named own rfl
    exact queryEntry.answers held
      (requestQueryEntry_found opened ((findEntry_iff _ _ _ _).mpr ⟨stands, named, own⟩))
  case missing => exact queryEntry.answers held (requestQueryEntry_not_found opened (findEntry_none nobody))
  case idle =>
    refine readOptions.answers held ((requestReadOptions_opened opened).trans ?_)
    rw [idle, List.append_assoc]
    rfl
  case storing =>
    refine readOptions.answers held ((requestReadOptions_opened opened).trans ?_)
    rw [storing]
    simp only [storeBytes, List.append_assoc, List.cons_append, List.nil_append]

end Sys2Proof.Machine
end

section
/-!
PROOF. The request engine: the choice of a slot in round-robin order, the take, and the completion (R134, R135, R143,
R145).
-/

namespace Sys2Proof.Machine

/-! ## Round-robin order -/

theorem roundRobin_eq (pointer : ClientId) :
    roundRobin pointer = (List.range 4).map fun n => pointer + 1 + Fin.ofNat 4 n := by
  revert pointer
  decide

theorem mem_roundRobin (pointer c : ClientId) : c ∈ roundRobin pointer := by
  revert pointer c
  decide

/-- The client that the engine looks for is the first from the one after the pointer on (R135). -/
theorem firstWaiting_iff (s : State) (next : Option ClientId) : FirstWaiting s next ↔ waitingClient s = next := by
  have none_iff : waitingClient s = none ↔ ∀ c, (s.client c).request = none := by
    simp only [waitingClient, List.find?_eq_none, Bool.not_eq_true, Option.isSome_eq_false_iff,
      Option.isNone_iff_eq_none]
    exact ⟨fun none c => none c (mem_roundRobin s.pointer c), fun none c _ => none c⟩
  have some_iff : ∀ c, waitingClient s = some c ↔ ∃ n < 4, s.pointer + 1 + Fin.ofNat 4 n = c
      ∧ (s.client (s.pointer + 1 + Fin.ofNat 4 n)).request ≠ none
      ∧ ∀ m < n, (s.client (s.pointer + 1 + Fin.ofNat 4 m)).request = none := by
    intro c
    simp only [waitingClient, roundRobin_eq, List.find?_eq_some_iff_getElem, List.length_map, List.length_range,
      List.getElem_map, List.getElem_range, Bool.not_eq_true', Option.isSome_eq_false_iff, Option.isNone_iff_eq_none,
      ← Option.ne_none_iff_isSome]
    constructor
    · rintro ⟨waits, n, small, rfl, before⟩
      exact ⟨n, small, rfl, waits, before⟩
    · rintro ⟨n, small, rfl, waits, before⟩
      exact ⟨waits, n, small, rfl, before⟩
  constructor
  · rintro (⟨rfl, empty⟩ | ⟨n, small, rfl, waits, before⟩)
    · exact none_iff.mpr empty
    · exact (some_iff _).mpr ⟨n, small, rfl, waits, before⟩
  · rintro rfl
    cases waiting : waitingClient s with
    | none => exact .inl ⟨rfl, none_iff.mp waiting⟩
    | some c =>
      obtain ⟨n, small, rfl, waits, before⟩ := (some_iff c).mp waiting
      exact .inr ⟨n, small, rfl, waits, before⟩

/-- The choice reads the pointer and the request slots only (R135). -/
theorem waitingClient_congr {s t : State} (pointer : t.pointer = s.pointer)
    (requests : ∀ c, (t.client c).request = (s.client c).request) : waitingClient t = waitingClient s := by
  rw [waitingClient, waitingClient, pointer]
  simp only [requests]

/-! ## The take -/

theorem setClient_setClient (s : State) (c : ClientId) (r r' : Client) :
    (s.setClient c r).setClient c r' = s.setClient c r' := by
  simp [State.setClient]

/-- The session of a client whose frame is taken: an OPEN one has its keepalive renewed (R115). -/
def Session.renewed (run : Count) : Session → Session
  | .opened d => .opened { d with deadline := run + BitVec.ofNat 48 (d.period * 1000) }
  | .closed => .closed
  | .lapsed => .lapsed

theorem renewKeepalive_eq (c : ClientId) (s : State) :
    renewKeepalive c s = s.setClient c { s.client c with session := (s.client c).session.renewed s.run } := by
  rw [renewKeepalive, State.modifyClient]
  congr 1
  obtain ⟨session, _, _, _, _, _, _, _⟩ := s.client c
  cases session <;> rfl

/-- A take before its duplicate check (R115, R134, R135). -/
def frameTaken (c : ClientId) (s : State) : State :=
  { s.setClient c { s.client c with session := (s.client c).session.renewed s.run, request := none } with
    pointer := c, choice := none }

theorem client_frameTaken (c : ClientId) (s : State) :
    (frameTaken c s).client c
      = { s.client c with session := (s.client c).session.renewed s.run, request := none } :=
  (client_setClient s c c _).trans (if_pos rfl)

theorem setClient_frameTaken (c : ClientId) (s : State) (r : Client) :
    (frameTaken c s).setClient c r = { s.setClient c r with pointer := c, choice := none } := by
  simp [frameTaken, State.setClient]

theorem freeEngine_frameTaken {c : ClientId} {s : State} (engine : s.engine = none) :
    freeEngine (frameTaken c s) = { frameTaken c s with choice := waitingClient (frameTaken c s) } := by
  have free : (frameTaken c s).engine = none := engine
  rw [freeEngine, ← free]

/-- The take empties the request slot of the client, and no other (R134). -/
theorem request_frameTaken (c d : ClientId) (s : State) :
    ((frameTaken c s).client d).request = ((s.setClient c { s.client c with request := none }).client d).request := by
  have taken : (frameTaken c s).client d = if c = d then
      { s.client c with session := (s.client c).session.renewed s.run, request := none } else s.client d :=
    client_setClient s c d _
  rw [taken, client_setClient]
  split <;> rfl

theorem takeFrame_eq (c : ClientId) (f : Frame) (s : State) :
    takeFrame c f s
      = if isDuplicate (s.client c).response f then freeEngine (frameTaken c s)
        else { (frameTaken c s).modifyClient c fun r => { r with response := .pending f.sequence f.kind } with
          engine := some { client := c, frame := f, takenAt := s.run, outcome := none } } := by
  have taken : renewKeepalive c (State.modifyClient { s with pointer := c, choice := none } c
      fun r => { r with request := none }) = frameTaken c s := by
    rw [renewKeepalive_eq, State.modifyClient, setClient_setClient, client_setClient, if_pos rfl]
    rfl
  have response : ((frameTaken c s).client c).response = (s.client c).response :=
    (congrArg Client.response (client_frameTaken c s)).trans rfl
  unfold takeFrame
  dsimp only
  rw [taken, response]
  rfl

theorem isDuplicate_iff (slot : ResponseSlot) (f : Frame) :
    isDuplicate slot f = true ↔ ∃ r, slot = .done f.sequence f.kind r := by
  cases slot <;> simp [isDuplicate]

theorem exec_requestTake (s : State) : exec .requestTake s = .next (takeRequest s) := rfl

theorem takeRequest_next {s : State} {c : ClientId} {f : Frame} (engine : s.engine = none)
    (running : s.phase = .running) (next : nextClient s = some c) (request : (s.client c).request = some f) :
    takeRequest s = takeFrame c f s := by
  rw [takeRequest, if_neg (by simp [engine, running]), next]
  dsimp only
  rw [request]

theorem takeRequest_nothing {s : State} (nothing : s.engine ≠ none ∨ ∀ c, (s.client c).request = none) :
    takeRequest s = s := by
  unfold takeRequest
  split
  next => rfl
  next free =>
    split
    next c _ =>
      split
      next f request =>
        rcases nothing with busy | empty
        · simp [Option.isSome_iff_ne_none.mpr busy] at free
        · rw [empty c] at request
          cases request
      next => rfl
    next => rfl

/-- Settles O16: the chosen client, or the first in round-robin order, is taken; a duplicate ends there. -/
theorem requestTakeRoundRobin : Obligations.RequestTakeRoundRobin := by
  refine ⟨fun s c f engine running chosen request => ?_, fun s nothing => ?_⟩
  · have next : nextClient s = some c := by
      rcases chosen with choice | ⟨none, first⟩
      · rw [nextClient, choice]
      · rw [nextClient, none]
        exact (firstWaiting_iff s _).mp first
    have taken : exec .requestTake s = .next (takeFrame c f s) :=
      (exec_requestTake s).trans (congrArg _ (takeRequest_next engine running next request))
    intro session
    have renewed : session = (s.client c).session.renewed s.run := rfl
    rw [taken, takeFrame_eq, renewed]
    refine ⟨fun fresh => ?_, fun r duplicate => ?_⟩
    · have new : ¬isDuplicate (s.client c).response f = true := fun old => by
        obtain ⟨r, done⟩ := (isDuplicate_iff _ _).mp old
        exact fresh r done
      rw [if_neg new, State.modifyClient, client_frameTaken, setClient_frameTaken]
    · rw [if_pos ((isDuplicate_iff _ _).mpr ⟨r, duplicate⟩)]
      refine ⟨waitingClient (frameTaken c s), ?_, ?_⟩
      · rw [freeEngine_frameTaken engine]
        rfl
      · rw [firstWaiting_iff]
        exact waitingClient_congr rfl fun d => (request_frameTaken c d s).symm
  · rw [exec_requestTake, takeRequest_nothing nothing]

/-! ## The completion -/

theorem exec_requestCompletion (s : State) : exec .requestCompletion s = .next (completeRequest s) := rfl

/-- The response that a completion writes (R141, R143). -/
def writtenResponse (j : EngineJob) (reply : Reply) (s : State) : Client :=
  { s.client j.client with
    response := .done j.frame.sequence j.frame.kind
      { status := reply.1, result := reply.2, flags := clientFlags j.client s } }

theorem completeRequest_executed {s : State} {j : EngineJob} {reply : Reply} (engine : s.engine = some j)
    (outcome : j.outcome = some reply) :
    completeRequest s
      = { s.setClient j.client (writtenResponse j reply s) with engine := none, choice := waitingClient s } := by
  have requests : ∀ c, ((s.setClient j.client (writtenResponse j reply s)).client c).request = (s.client c).request := by
    intro c
    rw [client_setClient]
    split
    next same => rw [← same]; rfl
    next => rfl
  have choice : waitingClient (s.setClient j.client (writtenResponse j reply s)) = waitingClient s :=
    waitingClient_congr rfl requests
  rw [completeRequest, engine]
  dsimp only
  rw [outcome, ← choice]
  rfl

theorem completeRequest_unexecuted {s : State} (unexecuted : ∀ j, s.engine = some j → j.outcome = none) :
    completeRequest s = s := by
  unfold completeRequest
  split
  next j engine => rw [unexecuted j engine]
  next => rfl

/-- Settles O17: the response with its flags, and the free engine's next choice. -/
theorem requestCompletionWritesTheResponse : Obligations.RequestCompletionWritesTheResponse := by
  refine ⟨fun s j status result engine outcome => ?_, fun s unexecuted => ?_⟩
  · obtain ⟨lost, gap, -, time, quality, supply, high⟩ := clientFlags_bits j.client s
    refine ⟨clientFlags j.client s, waitingClient s, ?_, (firstWaiting_iff s _).mpr rfl, lost, gap,
      clientFlags_authority s j.client, time, quality, supply, high⟩
    rw [exec_requestCompletion, completeRequest_executed engine outcome]
    rfl
  · rw [exec_requestCompletion, completeRequest_unexecuted unexecuted]

end Sys2Proof.Machine
end

section
/-!
PROOF. ACQUIRE by its table and RELEASE (R36, R37, R39 to R41, R52).
-/

namespace Sys2Proof.Machine

/-! ## The place of a client -/

theorem placeOf_outside {r : Line} {c : ClientId} (outside : r.awaitedBy c = false) : r.placeOf c = 0 :=
  if_neg (by simp [outside])

/-- The place of a waiter that those ahead of it are not (R37). -/
theorem placeOf_waiter {r : Line} {c : ClientId} {ahead behind : List Waiter} {w : Waiter}
    (list : r.waiters = ahead ++ w :: behind) (own : w.client = c) (others : ∀ v ∈ ahead, v.client ≠ c) :
    r.placeOf c = ahead.length + 1 := by
  have waits : r.awaitedBy c = true := by
    rw [Line.awaitedBy, list]
    simp [own]
  have first : ahead.findIdx (fun v => v.client == c) = ahead.length :=
    List.findIdx_eq_length.mpr fun v mem => beq_false_of_ne (others v mem)
  rw [Line.placeOf, if_pos waits, list, List.findIdx_append, first, if_neg (lt_irrefl _), List.findIdx_cons]
  simp [own]

/-- Ahead of a waiter in a list of distinct clients stand other clients. -/
theorem ahead_ne {waiters ahead behind : List Waiter} {w : Waiter} (distinct : (waiters.map Waiter.client).Nodup)
    (list : waiters = ahead ++ w :: behind) : ∀ v ∈ ahead, v.client ≠ w.client := by
  intro v mem same
  rw [list, List.map_append, List.map_cons] at distinct
  exact List.disjoint_of_nodup_append distinct (List.mem_map_of_mem mem) (same ▸ List.mem_cons_self)

theorem grantLevel_eq (supply : SupplyState) (park before : Level) :
    grantLevel supply park before = if supply = .hold then park else before := by
  cases supply <;> rfl

/-! ## ACQUIRE -/

/-- The parameters of ACQUIRE (R37). -/
theorem parseAcquire_bytes (l : LineId) (park : Level) (wait : Bool) :
    parseAcquire [byteOf l.val, levelCode park, flagCode wait] = some (l, park, wait) := by
  simp only [parseAcquire, lineOfCode_byteOf, levelOfCode_levelCode, yesNoOfCode_flagCode]

theorem byteOf_zero : byteOf 0 = 0x00 := rfl

section
variable {c : ClientId} {s : State} {l : LineId} {park : Level} {wait : Bool} (opened : s.isOpen c = true)
include opened

/-- A FREE line is granted (R37, R39). -/
theorem requestAcquire_free (free : (s.line l).lease = none) (idle : (s.line l).waiters = []) :
    requestAcquire c [byteOf l.val, levelCode park, flagCode wait] s
      = (s.setLine l { s.line l with
            lease := some { client := c, park := park }
            level := if s.supplyState = .hold then park else (s.line l).level }, .ok, [byteOf c.val, 0x00]) := by
  rw [requestAcquire, whenOpen_withParams_some opened (parseAcquire_bytes l park wait)]
  dsimp only
  rw [free]
  dsimp only
  rw [grantLevel_eq, acquireResult, placeOf_outside, byteOf_zero]
  · rfl
  · exact congrArg (List.any · fun w => w.client == c) idle

section
variable {lease : Lease} (held : (s.line l).lease = some lease)
include held

/-- A HELD line answers its holder and its waiters ALREADY (R37). -/
theorem requestAcquire_already (already : lease.client = c ∨ (s.line l).awaitedBy c = true) :
    requestAcquire c [byteOf l.val, levelCode park, flagCode wait] s
      = (s, .already, [byteOf lease.client.val, byteOf ((s.line l).placeOf c)]) := by
  rw [requestAcquire, whenOpen_withParams_some opened (parseAcquire_bytes l park wait)]
  dsimp only
  rw [held]
  dsimp only
  rw [if_pos (by simpa using already), acquireResult, Line.holder, held]
  rfl

variable (other : lease.client ≠ c) (outside : (s.line l).awaitedBy c = false)
include other outside

/-- Without wait a HELD line answers HELD (R37). -/
theorem requestAcquire_held :
    requestAcquire c [byteOf l.val, levelCode park, flagCode false] s
      = (s, .held, [byteOf lease.client.val, 0x00]) := by
  rw [requestAcquire, whenOpen_withParams_some opened (parseAcquire_bytes l park false)]
  dsimp only
  rw [held]
  dsimp only
  rw [if_neg (by simp [other, outside]), if_pos Bool.not_false, acquireResult, Line.holder, held, placeOf_outside outside,
    byteOf_zero]
  rfl

/-- With wait the client joins the end of the wait list (R36, R37). -/
theorem requestAcquire_queued (room : (s.line l).waiters.length < 3) :
    requestAcquire c [byteOf l.val, levelCode park, flagCode true] s
      = (s.setLine l { s.line l with waiters := (s.line l).waiters ++ [{ client := c, park := park }] }, .queued,
          [byteOf lease.client.val, byteOf ((s.line l).waiters.length + 1)]) := by
  rw [requestAcquire, whenOpen_withParams_some opened (parseAcquire_bytes l park true)]
  dsimp only
  rw [held]
  dsimp only
  rw [if_neg (by simp [other, outside]), if_neg (by simp), if_neg (not_le.mpr room), acquireResult, Line.holder,
    placeOf_waiter (w := { client := c, park := park }) (behind := []) rfl rfl
      ((Line.awaitedBy_eq_false_iff _ _).mp outside)]
  rfl

end

end

/-- Settles O20: the rows of ACQUIRE's table. -/
theorem acquireFollowsItsTable : Obligations.AcquireFollowsItsTable := by
  have acquire : Runs .acquire 0x20 requestAcquire := fun _ => rfl
  refine fun s j l park wait owned held opened => ⟨fun free => ?free, fun lease leased =>
    ⟨fun own => ?holder, fun ahead w behind list own => ?waiter, fun other outside =>
      ⟨fun impatient => ?held, fun waits room => ?queued⟩⟩⟩
  case free => exact acquire.answers held (requestAcquire_free opened free (owned.waitersOnHeld l free))
  case holder =>
    have outside := owned.holderNotWaiting l j.client (by rw [Line.heldBy, Line.holder, leased, ← own]; simp)
    refine acquire.answers held ((requestAcquire_already opened leased (.inl own)).trans ?_)
    rw [placeOf_outside outside, own, byteOf_zero]
  case waiter =>
    have awaits : (s.line l).awaitedBy j.client = true := by
      rw [Line.awaitedBy, list]
      simp [own]
    refine acquire.answers held ((requestAcquire_already opened leased (.inr awaits)).trans ?_)
    rw [placeOf_waiter list own fun v mem => own ▸ ahead_ne (owned.distinct l) list v mem]
  case held =>
    subst impatient
    exact acquire.answers held (requestAcquire_held opened leased other outside)
  case queued =>
    subst waits
    exact acquire.answers held (requestAcquire_queued opened leased other outside room)

/-! ## RELEASE -/

theorem requestRelease_holder {c : ClientId} {s : State} {l : LineId} (opened : s.isOpen c = true)
    (holds : (s.line l).heldBy c = true) :
    requestRelease c [byteOf l.val] s
      = (passOn l (withdrawOnLine c l s), .ok,
          [optClientCode ((passOn l (withdrawOnLine c l s)).line l).holder, byteOf (entriesOnLine c l s)]) := by
  rw [requestRelease, whenOpen_withParams_some opened (parseLine_byteOf l), if_pos holds]

theorem requestRelease_other {c : ClientId} {s : State} {l : LineId} (opened : s.isOpen c = true)
    (other : (s.line l).heldBy c = false) : requestRelease c [byteOf l.val] s = (s, .notHolder, []) := by
  rw [requestRelease, whenOpen_withParams_some opened (parseLine_byteOf l), if_neg (by simp [other])]
  rfl

/-- Settles O21: the entries on the line go, and the line is passed on. -/
theorem releasePassesTheLineOn : Obligations.ReleasePassesTheLineOn := by
  have release : Runs .release 0x21 requestRelease := fun _ => rfl
  refine fun s j l held opened => ⟨fun other => release.answers held (requestRelease_other opened other),
    fun holds => ?_⟩
  let u := withdrawOnLine j.client l s
  have line : (passOn l u).line l = (s.line l).handedOn s.supplyState (s.idleLevel l) :=
    (line_passOn l l u).trans (if_pos rfl)
  have withdrawn : OnlyCalendar s u := rfl
  refine ⟨passOn l u, _, release.answers held (requestRelease_holder opened holds),
    withdrawn.trans (passOn_onlyCalendar l u), fun k => ?slots, fun m other => ?lines, fun list => ?free,
    fun w ws list => ?granted⟩
  case slots =>
    rw [(passOn_onlyNotices l u).slot]
    exact slot_removeEntries s _ k
  case lines => exact (line_passOn l m u).trans (if_neg other.symm)
  case free =>
    have handed : (s.line l).handedOn s.supplyState (s.idleLevel l)
        = { lease := none, level := s.idleLevel l, pulse := none, waiters := [] } := by
      rw [Line.handedOn, list]
    rw [line, handed, passOn_free (s := u) list]
    exact ⟨rfl, rfl, rfl⟩
  case granted =>
    have handed : (s.line l).handedOn s.supplyState (s.idleLevel l)
        = { lease := some { client := w.client, park := w.park },
            level := if s.supplyState = .hold then w.park else (s.line l).level, pulse := none, waiters := ws } := by
      rw [Line.handedOn, list]
      dsimp only
      rw [grantLevel_eq]
    rw [line, handed, passOn_waiter (s := u) list]
    exact ⟨rfl, rfl, clients_postNotice_congr _ _ _ _ _ _ _ rfl rfl⟩

end Sys2Proof.Machine
end

section
/-!
PROOF. The requests of the queues, and those that name entries: CANCEL, CANCEL_LINE and LIST_ENTRIES (R57, R59, R64, R65,
R67, R104, R105, R109, R128).
-/

namespace Sys2Proof.Machine

/-! ## Subscriptions and queues -/

theorem parseSubscribe_bytes (i : InputId) (choice : EdgeChoice) :
    parseSubscribe [byteOf i.val, edgeChoiceCode choice] = some (i, choice) := by
  simp only [parseSubscribe, inputOfCode_byteOf, edgeChoiceOfCode_code]

theorem parseInput_byteOf (i : InputId) : parseInput [byteOf i.val] = some i := inputOfCode_byteOf i

section
variable {c : ClientId} {s : State} (opened : s.isOpen c = true)
include opened

theorem requestSubscribe_opened (i : InputId) (choice : EdgeChoice) :
    requestSubscribe c [byteOf i.val, edgeChoiceCode choice] s
      = (s.setClient c ((s.client c).setSub i (some choice)), .ok,
          [((s.client c).sub i).elim 0x00 edgeChoiceCode]) := by
  rw [requestSubscribe, whenOpen_withParams_some opened (parseSubscribe_bytes i choice)]
  cases held : (s.client c).sub i <;> simp only [held] <;> rfl

theorem requestUnsubscribe_none {i : InputId} (empty : (s.client c).sub i = none) :
    requestUnsubscribe c [byteOf i.val] s = (s, .notFound, []) := by
  rw [requestUnsubscribe, whenOpen_withParams_some opened (parseInput_byteOf i)]
  dsimp only
  rw [empty]
  rfl

theorem requestUnsubscribe_some {i : InputId} {former : EdgeChoice} (held : (s.client c).sub i = some former) :
    requestUnsubscribe c [byteOf i.val] s
      = (s.setClient c ((s.client c).setSub i none), .ok, [edgeChoiceCode former]) := by
  rw [requestUnsubscribe, whenOpen_withParams_some opened (parseInput_byteOf i)]
  dsimp only
  rw [held]

theorem requestTakeCaptures_opened :
    requestTakeCaptures c [] s
      = (s.setClient c { s.client c with captures := (s.client c).captures.drop 4 }, .ok,
          [byteOf (min 4 (s.client c).captures.length), byteOf ((s.client c).captures.length - 4)]
            ++ ((s.client c).captures.take 4).flatMap captureBytes) := by
  rw [requestTakeCaptures, whenOpen_withParams_nil opened]
  dsimp only
  rw [List.length_take, List.length_drop]

theorem requestTakeNotices_opened :
    requestTakeNotices c [] s
      = (s.setClient c { s.client c with notices := (s.client c).notices.drop 3, lost := false }, .ok,
          [byteOf (min 3 (s.client c).notices.length), byteOf ((s.client c).notices.length - 3),
            flagCode (s.client c).lost] ++ ((s.client c).notices.take 3).flatMap noticeBytes) := by
  rw [requestTakeNotices, whenOpen_withParams_nil opened]
  dsimp only
  rw [List.length_take, List.length_drop]

end

/-- Settles O28: the four requests, as they answer. -/
theorem subscriptionsAndTakesChangeTheirQueues : Obligations.SubscriptionsAndTakesChangeTheirQueues := by
  have subscribe : Runs .subscribe 0x40 requestSubscribe := fun _ => rfl
  have unsubscribe : Runs .unsubscribe 0x41 requestUnsubscribe := fun _ => rfl
  have takeCaptures : Runs .takeCaptures 0x42 requestTakeCaptures := fun _ => rfl
  have takeNotices : Runs .takeNotices 0x48 requestTakeNotices := fun _ => rfl
  refine ⟨fun s j i opened => ⟨fun choice held => ?_, fun held => ⟨fun empty => ?_, fun former sub => ?_⟩⟩,
    fun s j opened => ⟨fun held => ?_, fun held => ?_⟩⟩
  · refine subscribe.answers held ((requestSubscribe_opened opened i choice).trans ?_)
    cases (s.client j.client).sub i <;> rfl
  · exact unsubscribe.answers held (requestUnsubscribe_none opened empty)
  · exact unsubscribe.answers held (requestUnsubscribe_some opened sub)
  · exact takeCaptures.answers held (requestTakeCaptures_opened opened)
  · exact takeNotices.answers held (requestTakeNotices_opened opened)

/-! ## Handles -/

/-- A handle tells its slot (R57). -/
theorem slotOf_handleOf (k : SlotId) (u : BitVec 10) : slotOf (handleOf k u) = k := by
  have small := u.isLt
  apply Fin.ext
  simp only [slotOf, handleOf, BitVec.toNat_ofNat]
  omega

/-- A handle is not 0 (R57). -/
theorem handleOf_ne_zero (k : SlotId) {u : BitVec 10} (used : u ≠ 0) : handleOf k u ≠ 0 := by
  intro zero
  have number : (k.val + 64 * u.toNat) % 2 ^ 16 = 0 := by simpa [handleOf] using congrArg BitVec.toNat zero
  have small := u.isLt
  exact used (BitVec.eq_of_toNat_eq (show u.toNat = 0 by omega))

/-- An entry stands in the slot of its handle (R57). -/
theorem EntriesNamed.slotOf {s : State} (named : EntriesNamed s) {k : SlotId} {e : Entry} (stands : s.slot k = some e) :
    slotOf e.handle = k := by
  rw [(named.handle k e stands).1, slotOf_handleOf]

theorem EntriesNamed.findEntry {s : State} (named : EntriesNamed s) {k : SlotId} {e : Entry}
    (stands : s.slot k = some e) : findEntry e.owner e.handle s = some e :=
  (findEntry_iff _ _ _ _).mpr ⟨by rw [named.slotOf stands]; exact stands, rfl, rfl⟩

/-! ## CANCEL and CANCEL_LINE -/

theorem requestCancel_found {c : ClientId} {h : Handle} {s : State} {e : Entry} (opened : s.isOpen c = true)
    (found : findEntry c h s = some e) :
    requestCancel c (beBytes 2 h.toNat) s
      = (s.setSlot (slotOf h) none, .ok, [byteOf e.body.line.val] ++ countBytes (countOf e.body)) := by
  rw [requestCancel, whenOpen_withParams_some opened (parseHandle_beBytes h), found]

theorem requestCancel_not_found {c : ClientId} {h : Handle} {s : State} (opened : s.isOpen c = true)
    (missing : findEntry c h s = none) : requestCancel c (beBytes 2 h.toNat) s = (s, .notFound, []) := by
  rw [requestCancel, whenOpen_withParams_some opened (parseHandle_beBytes h), missing]
  rfl

theorem requestCancelLine_holder {c : ClientId} {l : LineId} {s : State} (opened : s.isOpen c = true)
    (holds : (s.line l).heldBy c = true) :
    requestCancelLine c [byteOf l.val] s = (withdrawOnLine c l s, .ok, [byteOf (entriesOnLine c l s)]) := by
  rw [requestCancelLine, whenOpen_withParams_some opened (parseLine_byteOf l), if_pos holds]

theorem requestCancelLine_other {c : ClientId} {l : LineId} {s : State} (opened : s.isOpen c = true)
    (other : (s.line l).heldBy c = false) : requestCancelLine c [byteOf l.val] s = (s, .notHolder, []) := by
  rw [requestCancelLine, whenOpen_withParams_some opened (parseLine_byteOf l), if_neg (by simp [other])]
  rfl

/-- Settles O26: the entry that a handle names, and the entries on a line. -/
theorem cancelRemovesEntries : Obligations.CancelRemovesEntries := by
  have cancel : Runs .cancel 0x32 requestCancel := fun _ => rfl
  have cancelLine : Runs .cancelLine 0x33 requestCancelLine := fun _ => rfl
  refine ⟨fun s j h named held opened => ⟨?found, fun nobody => ?missing⟩,
    fun s j l held opened => ⟨fun other => ?other, fun holds => ?holder⟩⟩
  case found =>
    rintro k e stands rfl own
    have found : findEntry j.client e.handle s = some e := own ▸ named.findEntry stands
    refine cancel.answers held ((requestCancel_found opened found).trans ?_)
    rw [named.slotOf stands]
    obtain ⟨_, _, ⟨_, _, _, rep, _, _, _, _, _⟩⟩ := e
    rcases rep with _ | ⟨_, _ | _⟩ <;> rfl
  case missing => exact cancel.answers held (requestCancel_not_found opened (findEntry_none nobody))
  case other => exact cancelLine.answers held (requestCancelLine_other opened other)
  case holder => exact cancelLine.answers held (requestCancelLine_holder opened holds)

/-! ## LIST_ENTRIES -/

theorem dueBefore_iff (count : Count) (a b : Entry) :
    dueBefore count a b = true
      ↔ signedDistance a.body.due count < signedDistance b.body.due count
        ∨ signedDistance a.body.due count = signedDistance b.body.due count ∧ a.handle.toNat ≤ b.handle.toNat := by
  simp only [dueBefore, Bool.or_eq_true, Bool.and_eq_true, decide_eq_true_eq, beq_iff_eq]

theorem mem_dueOrder (s : State) (p : SlotId × Entry) : p ∈ s.dueOrder ↔ s.slot p.1 = some p.2 :=
  (dueOrder_perm s).mem_iff.trans (mem_entries s p)

theorem mem_ownHandles (c : ClientId) (s : State) (h : Handle) :
    h ∈ ownHandles c s ↔ ∃ k e, s.slot k = some e ∧ e.owner = c ∧ e.handle = h := by
  simp only [ownHandles, List.mem_map, List.mem_filter, mem_dueOrder, beq_iff_eq, Prod.exists, and_assoc]

/-- The handles of a client's entries are distinct (R57). -/
theorem ownHandles_nodup {s : State} (named : EntriesNamed s) (c : ClientId) : (ownHandles c s).Nodup := by
  have keys : (s.dueOrder.map Prod.fst).Nodup := ((dueOrder_perm s).map Prod.fst).nodup_iff.mpr (entries_nodup s)
  refine List.Nodup.map_on (fun p mem q mem' same => ?_) (keys.of_map.filter _)
  have p_stands := (mem_dueOrder s p).mp (List.mem_filter.mp mem).1
  have q_stands := (mem_dueOrder s q).mp (List.mem_filter.mp mem').1
  have slot : p.1 = q.1 := by rw [← named.slotOf p_stands, same, named.slotOf q_stands]
  have entry : p.2 = q.2 := by
    rw [slot] at p_stands
    exact Option.some.inj (p_stands.symm.trans q_stands)
  exact Prod.ext slot entry

theorem findEntry_of_mem {s : State} (named : EntriesNamed s) {c : ClientId} {h : Handle} (mem : h ∈ ownHandles c s) :
    ∃ e, findEntry c h s = some e := by
  obtain ⟨k, e, stands, rfl, rfl⟩ := (mem_ownHandles c s h).mp mem
  exact ⟨e, named.findEntry stands⟩

/-- From the handle of an own entry LIST_ENTRIES goes on behind it (R67). -/
theorem handlesFrom_own {s : State} (named : EntriesNamed s) {c : ClientId} {start : Handle}
    {before behind : List Handle} (own : ownHandles c s = before ++ start :: behind) :
    handlesFrom c start s = some behind := by
  have mem : start ∈ ownHandles c s := by simp [own]
  obtain ⟨e, found⟩ := findEntry_of_mem named mem
  have nonzero : start ≠ 0 := by
    obtain ⟨k, e, stands, -, rfl⟩ := (mem_ownHandles c s start).mp mem
    obtain ⟨handle, used⟩ := named.handle k e stands
    rw [handle]
    exact handleOf_ne_zero k used
  have distinct := ownHandles_nodup named c
  rw [own] at distinct
  have outside : start ∉ before := fun inside => List.disjoint_of_nodup_append distinct inside List.mem_cons_self
  have first : before.findIdx (· == start) = before.length :=
    List.findIdx_eq_length.mpr fun h inside => beq_false_of_ne fun same => outside (same ▸ inside)
  have place : (before ++ start :: behind).findIdx (· == start) = before.length := by
    rw [List.findIdx_append, first, if_neg (lt_irrefl _), List.findIdx_cons, BEq.rfl]
    simp
  rw [handlesFrom, if_neg nonzero, found, own, place]
  simp

theorem handlesFrom_zero (c : ClientId) (s : State) : handlesFrom c 0 s = some (ownHandles c s) := by
  rw [handlesFrom, if_pos rfl]

theorem handlesFrom_none {c : ClientId} {start : Handle} {s : State} (nonzero : start ≠ 0)
    (other : start ∉ ownHandles c s) : handlesFrom c start s = none := by
  have missing : findEntry c start s = none := findEntry_none fun k e stands named own =>
    other ((mem_ownHandles c s start).mpr ⟨k, e, stands, own, named⟩)
  rw [handlesFrom, if_neg nonzero, missing]

theorem requestListEntries_given {c : ClientId} {start : Handle} {s : State} {listed : List Handle}
    (opened : s.isOpen c = true) (from_ : handlesFrom c start s = some listed) :
    requestListEntries c (beBytes 2 start.toNat) s
      = (s, .ok,
          [byteOf (s.entryCount c), byteOf (min 3 listed.length), flagCode (decide (3 < listed.length))]
            ++ (listed.take 3).flatMap fun h => beBytes 2 h.toNat) := by
  rw [requestListEntries, whenOpen_withParams_some opened (parseHandle_beBytes start), from_]
  dsimp only
  rw [List.length_take]

theorem requestListEntries_none {c : ClientId} {start : Handle} {s : State} (opened : s.isOpen c = true)
    (none : handlesFrom c start s = Option.none) :
    requestListEntries c (beBytes 2 start.toNat) s = (s, .notFound, []) := by
  rw [requestListEntries, whenOpen_withParams_some opened (parseHandle_beBytes start), none]
  rfl

/-- Settles O27: due order, and the handles that follow a start handle in it. -/
theorem listEntriesFollowsDueOrder : Obligations.ListEntriesFollowsDueOrder := by
  have row : Runs .listEntries 0x35 requestListEntries := fun _ => rfl
  refine ⟨fun s => ⟨dueOrder_perm s, ?_⟩, fun s j start held opened => ⟨?_, fun named before behind own => ?_,
    fun nonzero other => ?_⟩⟩
  · exact (sortByDue_sorted s.timebase s.entries).imp fun {a b} before => (dueBefore_iff s.timebase a.2 b.2).mp before
  · rintro rfl
    exact row.answers held (requestListEntries_given opened (handlesFrom_zero ..))
  · exact row.answers held (requestListEntries_given opened (handlesFrom_own named own))
  · exact row.answers held (requestListEntries_none opened (handlesFrom_none nonzero other))

end Sys2Proof.Machine
end

section
/-!
PROOF. SCHEDULE and BATCH: the checks of a booking in their order, the free slot, and the members of a batch one by one
(R56 to R58, R60 to R63).
-/

namespace Sys2Proof.Machine

/-! ## The checks of a booking -/

/-- The client has an entry on the line with the due (R60 check 7). -/
def Conflicting (c : ClientId) (b : Booking) (s : State) : Prop :=
  ∃ k e, s.slot k = some e ∧ e.owner = c ∧ e.body.line = b.line ∧ e.body.due = b.due

theorem conflicting_iff (c : ClientId) (b : Booking) (s : State) :
    (s.slots.toList.any fun o => o.any fun e => e.owner == c && e.body.line == b.line && e.body.due == b.due) = true
      ↔ Conflicting c b s := by
  simp only [any_slots_iff, Bool.and_eq_true, beq_iff_eq, and_assoc, Conflicting]

theorem tooSoon_iff (b : Booking) (s : State) :
    (isBehind b.due s.timebase || decide (distanceAhead b.due s.timebase < Config.minLead)) = true
      ↔ distanceAhead b.due s.timebase < 50 ∨ 2 ^ 47 ≤ distanceAhead b.due s.timebase := by
  rw [Bool.or_eq_true, decide_eq_true_iff, ← Bool.not_eq_false, isBehind_eq_false_iff, not_lt, or_comm]
  exact Iff.rfl

theorem degraded_iff (b : Booking) (s : State) :
    (b.strict && s.quality == .degraded) = true ↔ b.strict = true ∧ s.quality = .degraded := by
  rw [Bool.and_eq_true, beq_iff_eq]

theorem full_iff (c : ClientId) (s : State) :
    (s.share c ≤ s.entryCount c || 64 ≤ s.totalEntries) = true ↔ s.share c ≤ s.entryCount c ∨ 64 ≤ s.totalEntries := by
  rw [Bool.or_eq_true, decide_eq_true_iff, decide_eq_true_iff]

section
variable {c : ClientId} {b : Booking} {s : State}

theorem bookingStatus_notHolder (other : ¬(s.line b.line).heldBy c = true) : bookingStatus c b s = some .notHolder :=
  if_pos (by simpa using other)

variable (holds : (s.line b.line).heldBy c = true)
include holds

theorem bookingStatus_degraded (degraded : b.strict = true ∧ s.quality = .degraded) :
    bookingStatus c b s = some .degraded := by
  rw [bookingStatus, if_neg (by simp [holds]), if_pos ((degraded_iff b s).mpr degraded)]

variable (sound : ¬(b.strict = true ∧ s.quality = .degraded))
include sound

theorem bookingStatus_tooSoon (soon : distanceAhead b.due s.timebase < 50 ∨ 2 ^ 47 ≤ distanceAhead b.due s.timebase) :
    bookingStatus c b s = some .tooSoon := by
  rw [bookingStatus, if_neg (by simp [holds]), if_neg (by rwa [degraded_iff]), if_pos ((tooSoon_iff b s).mpr soon)]

variable (later : ¬(distanceAhead b.due s.timebase < 50 ∨ 2 ^ 47 ≤ distanceAhead b.due s.timebase))
include later

theorem bookingStatus_tooFar (far : 1099511627776 < distanceAhead b.due s.timebase) :
    bookingStatus c b s = some .tooFar := by
  rw [bookingStatus, if_neg (by simp [holds]), if_neg (by rwa [degraded_iff]), if_neg (by rwa [tooSoon_iff])]
  exact if_pos far

variable (near : ¬1099511627776 < distanceAhead b.due s.timebase)
include near

theorem bookingStatus_conflict (conflict : Conflicting c b s) : bookingStatus c b s = some .conflict := by
  rw [bookingStatus, if_neg (by simp [holds]), if_neg (by rwa [degraded_iff]), if_neg (by rwa [tooSoon_iff])]
  refine (if_neg near).trans ?_
  rw [if_pos ((conflicting_iff c b s).mpr conflict)]

variable (free : ¬Conflicting c b s)
include free

theorem bookingStatus_noSpace (full : s.share c ≤ s.entryCount c ∨ 64 ≤ s.totalEntries) :
    bookingStatus c b s = some .noSpace := by
  rw [bookingStatus, if_neg (by simp [holds]), if_neg (by rwa [degraded_iff]), if_neg (by rwa [tooSoon_iff])]
  refine (if_neg near).trans ?_
  rw [if_neg (by rwa [conflicting_iff]), if_pos ((full_iff c s).mpr full)]

theorem bookingStatus_passes (room : ¬(s.share c ≤ s.entryCount c ∨ 64 ≤ s.totalEntries)) :
    bookingStatus c b s = none := by
  rw [bookingStatus, if_neg (by simp [holds]), if_neg (by rwa [degraded_iff]), if_neg (by rwa [tooSoon_iff])]
  refine (if_neg near).trans ?_
  rw [if_neg (by rwa [conflicting_iff]), if_neg (by rwa [full_iff])]

end

/-! ## The free slot -/

theorem bookingStatus_none_room {c : ClientId} {b : Booking} {s : State} (passed : bookingStatus c b s = none) :
    s.totalEntries < 64 := by
  unfold bookingStatus at passed
  repeat' split at passed
  all_goals try cases passed
  next room =>
    rw [full_iff, not_or] at room
    exact not_le.mp room.2

theorem freeSlot_iff (s : State) (k : SlotId) :
    s.freeSlot = some k ↔ s.slot k = none ∧ ∀ m < k, s.slot m ≠ none := by
  simp only [State.freeSlot, allSlots, List.find?_eq_some_iff_getElem, List.length_finRange, List.getElem_finRange,
    Option.isNone_iff_eq_none]
  constructor
  · rintro ⟨empty, n, small, rfl, before⟩
    refine ⟨empty, fun m less taken => ?_⟩
    have := before m.val less
    simp [taken] at this
  · rintro ⟨empty, before⟩
    refine ⟨empty, k.val, k.isLt, rfl, fun m less => ?_⟩
    simpa [Option.isSome_iff_ne_none] using before ⟨m, less.trans k.isLt⟩ less

/-- A calendar with fewer than 64 entries has an empty slot (R54). -/
theorem exists_freeSlot {s : State} (room : s.totalEntries < 64) : ∃ k, s.freeSlot = some k := by
  by_contra none
  have taken : ∀ k, (s.slot k).isSome = true := by
    intro k
    by_contra empty
    refine none (Option.isSome_iff_exists.mp ?_)
    rw [State.freeSlot, List.find?_isSome]
    exact ⟨k, List.mem_finRange k, by simpa using empty⟩
  rw [State.totalEntries, countP_slots, Finset.filter_true_of_mem fun k _ => taken k] at room
  simp at room

/-- A booked entry raises its owner's entry count by one (R58). -/
theorem entryCount_insertAtSlot {c : ClientId} {b : Booking} {k : SlotId} {s : State} (empty : s.slot k = none) :
    (insertAtSlot c b k s).entryCount c = s.entryCount c + 1 := by
  have counted : (Finset.univ.filter fun m => ((insertAtSlot c b k s).slot m).any (fun e => e.owner == c) = true)
      = insert k (Finset.univ.filter fun m => (s.slot m).any (fun e => e.owner == c) = true) := by
    ext m
    simp only [Finset.mem_filter, Finset.mem_univ, true_and, Finset.mem_insert, slot_insertAtSlot]
    by_cases same : k = m
    · simp [same]
    · simp [same, Ne.symm same]
  rw [entryCount_eq, entryCount_eq, counted, Finset.card_insert_of_notMem (by simp [empty])]

theorem bookEntry_at {c : ClientId} {b : Booking} {s : State} {k : SlotId} (free : s.freeSlot = some k) :
    bookEntry c b s = (insertAtSlot c b k s, handleOf k (nextUseCount (s.useCount k))) := by
  rw [bookEntry, free]

/-! ## SCHEDULE -/

section
variable {c : ClientId} {ps : List Byte} {b : Booking} {s : State} (opened : s.isOpen c = true)
  (parses : parseBooking ps = some b)
include opened parses

theorem requestSchedule_refused {status : Status} (refused : bookingStatus c b s = some status) :
    requestSchedule c ps s = (s, status, []) := by
  rw [requestSchedule, whenOpen_withParams_some opened parses, refused]
  rfl

theorem requestSchedule_booked {k : SlotId} (passed : bookingStatus c b s = none) (free : s.freeSlot = some k) :
    requestSchedule c ps s
      = (insertAtSlot c b k s, .ok,
          beBytes 2 (handleOf k (nextUseCount (s.useCount k))).toNat ++ [byteOf (s.entryCount c + 1)]) := by
  rw [requestSchedule, whenOpen_withParams_some opened parses, passed]
  dsimp only
  rw [bookEntry_at free, entryCount_insertAtSlot ((freeSlot_iff s k).mp free).1]

end

/-- Settles O24: the checks of R60 in their order, and the entry in the lowest empty slot. -/
theorem scheduleBooksOrRefuses : Obligations.ScheduleBooksOrRefuses := by
  have row : Runs .schedule 0x30 requestSchedule := fun _ => rfl
  refine ⟨fun s j ps held opened unparsed => row.answers held (whenOpen_withParams_none opened unparsed _), ?_⟩
  intro s j ps b held opened parses d conflict holds degraded soon far full
  have distance : d = distanceAhead b.due s.timebase := (distance_eq b.due s.timebase).symm
  have refused : ∀ status, bookingStatus j.client b s = some status →
      exec .schedule s = .next (s.replied j status []) :=
    fun status failed => row.answers held (requestSchedule_refused opened parses failed)
  simp only [soon, far, distance]
  refine ⟨fun other => ?_, fun own bad => ?_, fun own sound early => ?_, fun own sound later away => ?_,
    fun own sound later near clash => ?_, fun own sound later near clear crowded => ?_,
    fun own sound later near clear room => ?_⟩
  · exact refused _ (bookingStatus_notHolder other)
  · exact refused _ (bookingStatus_degraded own bad)
  · exact refused _ (bookingStatus_tooSoon own sound early)
  · exact refused _ (bookingStatus_tooFar own sound later away)
  · exact refused _ (bookingStatus_conflict own sound later near clash)
  · exact refused _ (bookingStatus_noSpace own sound later near clear crowded)
  · have passed : bookingStatus j.client b s = none := bookingStatus_passes own sound later near clear room
    obtain ⟨k, free⟩ := exists_freeSlot (bookingStatus_none_room passed)
    obtain ⟨empty, before⟩ := (freeSlot_iff s k).mp free
    exact ⟨k, empty, before, row.answers held (requestSchedule_booked opened parses passed free)⟩

end Sys2Proof.Machine
end

section
/-!
PROOF. BATCH: its members are cut apart by their parts bytes, judged one after the other, and booked all or none (R61 to
R63).
-/

namespace Sys2Proof.Machine

/-! ## The members -/

/-- A descriptor has the length that its parts byte gives (12.2, log 24). -/
def IsDescriptor (d : List Byte) : Prop :=
  ∃ a b parts tail, d = a :: b :: parts :: tail ∧ d.length = descriptorLength parts

/-- The first bit of a parts byte says whether the action is a pulse. -/
theorem partsByte_pulse (a : Action) (rep guard : Bool) :
    (if bitOf (pulseBits a ||| flagBit 2 rep ||| flagBit 3 guard) 0 then 2 else 0) = (pulsePart a).length := by
  have bits : ∀ p : Byte, ∀ rep guard : Bool, bitOf (p ||| flagBit 2 rep ||| flagBit 3 guard) 0 = bitOf p 0 := by
    decide
  rw [bits]
  cases a with
  | pulse v w =>
    rw [pulsePart, length_beBytes, if_pos]
    cases v <;> simp [pulseBits, bitOf]
  | setHigh | setLow | toggle | release => rfl

theorem isDescriptor_bookingBytes (b : Booking) : IsDescriptor (bookingBytes b) := by
  obtain ⟨-, repeats, guards, -⟩ := partsByte_bits b.action b.rep.isSome b.guard.isSome
  refine ⟨_, _, _, _, rfl, ?_⟩
  have rep : (repeatPart b.rep).length = if b.rep.isSome then 6 else 0 := by
    cases b.rep with
    | none => rfl
    | some r => simp [repeatPart, length_countBytes]
  have guard : (guardPart b.guard).length = if b.guard.isSome then 1 else 0 := by
    cases b.guard <;> rfl
  rw [descriptorLength, repeats, guards, partsByte_pulse, ← rep, ← guard]
  simp only [bookingBytes, List.length_append, List.length_cons, List.length_nil, length_beBytes]

theorem isDescriptor_of_parses {d : List Byte} {b : Booking} (parses : parseBooking d = some b) : IsDescriptor d := by
  rw [(parseBooking_some parses).2]
  exact isDescriptor_bookingBytes b

/-- A descriptor at the head of the bytes is cut off as the first member (log 24). -/
theorem splitMembers_append {d : List Byte} (descriptor : IsDescriptor d) (rest : List Byte) (n : Nat) :
    splitMembers (n + 1) (d ++ rest) = (splitMembers n rest).map fun ms => d :: ms := by
  obtain ⟨a, b, parts, tail, rfl, length⟩ := descriptor
  have long : ¬((a :: b :: parts :: tail) ++ rest).length < descriptorLength parts := by
    rw [List.length_append, length]
    omega
  rw [List.cons_append, List.cons_append, List.cons_append] at long ⊢
  rw [splitMembers, if_neg long, ← List.cons_append, ← List.cons_append, ← List.cons_append, ← length,
    List.drop_left, List.take_left]

theorem splitMembers_flatten {ms : List (List Byte)} (descriptors : ∀ d ∈ ms, IsDescriptor d) :
    splitMembers ms.length ms.flatten = some ms := by
  induction ms with
  | nil => rfl
  | cons d ms ih =>
    rw [List.flatten_cons, List.length_cons, splitMembers_append (descriptors d List.mem_cons_self),
      ih fun d mem => descriptors d (List.mem_cons_of_mem _ mem)]
    rfl

theorem twelve_le_descriptorLength (parts : Byte) : 12 ≤ descriptorLength parts := by
  rw [descriptorLength]
  omega

/-- Only descriptors are cut apart (log 24). -/
theorem splitMembers_some {n : Nat} {bytes : List Byte} {ms : List (List Byte)}
    (cut : splitMembers n bytes = some ms) :
    ms.length = n ∧ bytes = ms.flatten ∧ ∀ d ∈ ms, IsDescriptor d := by
  induction n generalizing bytes ms with
  | zero =>
    cases bytes with
    | nil =>
      cases cut
      exact ⟨rfl, rfl, by simp⟩
    | cons b bs => cases cut
  | succ n ih =>
    unfold splitMembers at cut
    split at cut
    next a b parts tail =>
      dsimp only at cut
      split at cut
      next => cases cut
      next long =>
        obtain ⟨ms, rest, rfl⟩ := Option.map_eq_some_iff.mp cut
        obtain ⟨length, flat, descriptors⟩ := ih rest
        obtain ⟨k, least⟩ : ∃ k, descriptorLength parts = k + 3 :=
          ⟨_, (Nat.sub_add_cancel ((by norm_num : 3 ≤ 12).trans (twelve_le_descriptorLength parts))).symm⟩
        refine ⟨congrArg (· + 1) length, ?_, List.forall_mem_cons.mpr ⟨⟨a, b, parts, tail.take k, ?_, ?_⟩,
          descriptors⟩⟩
        · rw [List.flatten_cons, ← flat, List.take_append_drop]
        · rw [least]
          rfl
        · rw [List.length_take]
          omega
    next => cases cut

/-- The parameters of BATCH are the number of its members and their descriptors (R61). -/
theorem parseBatch_eq_some_iff (ps : List Byte) (ms : List (List Byte)) :
    parseBatch ps = some ms
      ↔ (1 ≤ ms.length ∧ ms.length ≤ 3) ∧ (∀ d ∈ ms, IsDescriptor d) ∧ ps = byteOf ms.length :: ms.flatten := by
  constructor
  · intro read
    unfold parseBatch at read
    split at read
    next n rest =>
      split at read
      next range =>
        obtain ⟨length, rfl, descriptors⟩ := splitMembers_some read
        simp only [Bool.and_eq_true, decide_eq_true_eq, ← length] at range
        refine ⟨range, descriptors, ?_⟩
        rw [length, byteOf, BitVec.ofNat_toNat, BitVec.setWidth_eq]
      next => cases read
    next => cases read
  · rintro ⟨⟨least, most⟩, descriptors, rfl⟩
    have number : (byteOf ms.length).toNat = ms.length := toNat_byteOf _ (by omega)
    rw [parseBatch, number, if_pos (by simp [least, most]), splitMembers_flatten descriptors]

/-! ## The members in turn -/

/-- Between two states entries have been booked, and none has been lost. -/
def OnlyBooked (s t : State) : Prop :=
  t = { s with slots := t.slots, useCounts := t.useCounts } ∧ ∀ k e, s.slot k = some e → t.slot k = some e

theorem OnlyBooked.trans {s t u : State} (h : OnlyBooked s t) (k : OnlyBooked t u) : OnlyBooked s u := by
  obtain ⟨same, kept⟩ := h
  obtain ⟨same', kept'⟩ := k
  refine ⟨?_, fun m e stands => kept' m e (kept m e stands)⟩
  rw [same', same]

theorem bookEntry_onlyBooked (c : ClientId) (b : Booking) (s : State) : OnlyBooked s (bookEntry c b s).1 := by
  unfold bookEntry
  split
  next k free =>
    refine ⟨rfl, fun m e stands => ?_⟩
    rw [slot_insertAtSlot, if_neg]
    · exact stands
    · rintro rfl
      rw [freeSlot_empty free] at stands
      cases stands
  next => exact ⟨rfl, fun _ _ stands => stands⟩

/-- A first member that passes is booked, and the others are judged after it (R61). -/
theorem bookMembers_cons {c : ClientId} {index : Nat} {m : List Byte} {ms : List (List Byte)} {b : Booking}
    {s : State} (parses : parseBooking m = some b) (passed : bookingStatus c b s = none) :
    bookMembers c index (m :: ms) s
      = (bookMembers c (index + 1) ms (bookEntry c b s).1).map fun p => (p.1, (bookEntry c b s).2 :: p.2) := by
  rw [bookMembers, parses]
  dsimp only
  rw [passed]
  dsimp only
  cases bookMembers c (index + 1) ms (bookEntry c b s).1 <;> rfl

theorem bookMembers_unparsed {c : ClientId} {index : Nat} {m : List Byte} {ms : List (List Byte)} {s : State}
    (unparsed : parseBooking m = none) : bookMembers c index (m :: ms) s = .error (index, .invalid) := by
  rw [bookMembers, unparsed]

theorem bookMembers_refused {c : ClientId} {index : Nat} {m : List Byte} {ms : List (List Byte)} {b : Booking}
    {s : State} {status : Status} (parses : parseBooking m = some b) (refused : bookingStatus c b s = some status) :
    bookMembers c index (m :: ms) s = .error (index, status) := by
  rw [bookMembers, parses]
  dsimp only
  rw [refused]

theorem bookingStatus_ne_ok {c : ClientId} {b : Booking} {s : State} {status : Status}
    (refused : bookingStatus c b s = some status) : status ≠ .ok := by
  rintro rfl
  unfold bookingStatus at refused
  repeat' split at refused
  all_goals cases refused

/-- The members are refused with the place of one of them, or all booked (R61). -/
theorem bookMembers_outcome (c : ClientId) (ms : List (List Byte)) (index : Nat) (s : State) :
    (∃ member status, bookMembers c index ms s = .error (member, status) ∧ status ≠ .ok ∧ member < index + ms.length)
    ∨ ∃ t handles, bookMembers c index ms s = .ok (t, handles) ∧ OnlyBooked s t := by
  induction ms generalizing index s with
  | nil => exact .inr ⟨s, [], rfl, rfl, fun _ _ stands => stands⟩
  | cons m ms ih =>
    cases parsed : parseBooking m with
    | none => exact .inl ⟨index, .invalid, bookMembers_unparsed parsed, by simp, by simp⟩
    | some b =>
      cases judged : bookingStatus c b s with
      | some status =>
        exact .inl ⟨index, status, bookMembers_refused parsed judged, bookingStatus_ne_ok judged, by simp⟩
      | none =>
        rw [bookMembers_cons parsed judged, List.length_cons]
        rcases ih (index + 1) (bookEntry c b s).1 with ⟨member, status, failed, bad, place⟩ | ⟨t, handles, booked, only⟩
        · exact .inl ⟨member, status, by rw [failed]; rfl, bad, by omega⟩
        · exact .inr ⟨t, _, by rw [booked]; rfl, (bookEntry_onlyBooked c b s).trans only⟩

/-- Members that pass in turn are booked in turn, and the others are judged after them (R61, R62). -/
theorem bookMembers_inTurn {c : ClientId} {bs : List Booking} {s t : State} {handles : List Handle}
    (turn : BookedInTurn c bs s t handles) {ms : List (List Byte)} (parse : ms.map parseBooking = bs.map some)
    (rest : List (List Byte)) (index : Nat) :
    bookMembers c index (ms ++ rest) s
      = (bookMembers c (index + ms.length) rest t).map fun p => (p.1, handles ++ p.2) := by
  induction turn generalizing ms index with
  | nil s =>
    obtain rfl := List.map_eq_nil_iff.mp parse
    rw [List.nil_append, List.length_nil, Nat.add_zero]
    cases bookMembers c index rest s <;> rfl
  | cons b bs s t handles passed turn ih =>
    obtain ⟨m, ms, rfl, first, others⟩ := List.map_eq_cons_iff.mp parse
    rw [List.cons_append, bookMembers_cons first passed, ih others, List.length_cons, Nat.add_assoc,
      Nat.add_comm 1]
    cases bookMembers c (index + (ms.length + 1)) rest t <;> rfl

/-- Bookings in turn raise the owner's entry count by their number (R58). -/
theorem entryCount_inTurn {c : ClientId} {bs : List Booking} {s t : State} {handles : List Handle}
    (turn : BookedInTurn c bs s t handles) : t.entryCount c = s.entryCount c + bs.length := by
  induction turn with
  | nil s => rfl
  | cons b bs s t handles passed turn ih =>
    obtain ⟨k, free⟩ := exists_freeSlot (bookingStatus_none_room passed)
    rw [ih, bookEntry_at free, entryCount_insertAtSlot ((freeSlot_iff s k).mp free).1, List.length_cons]
    omega

theorem descriptors_of_parse {ms : List (List Byte)} {bs : List Booking} (parse : ms.map parseBooking = bs.map some) :
    ∀ d ∈ ms, IsDescriptor d := by
  intro d mem
  have parsed : parseBooking d ∈ bs.map some := parse ▸ List.mem_map_of_mem mem
  obtain ⟨b, -, same⟩ := List.mem_map.mp parsed
  exact isDescriptor_of_parses same.symm

/-! ## BATCH -/

section
variable {c : ClientId} {ps : List Byte} {s : State}

theorem requestBatch_notOpen (closed : s.isOpen c = false) : requestBatch c ps s = (s, .notOpen, [0x00]) :=
  if_pos (by simp [closed])

theorem requestBatch_invalid (opened : s.isOpen c = true) (unparsed : parseBatch ps = none) :
    requestBatch c ps s = (s, .invalid, [0x00]) := by
  rw [requestBatch, if_neg (by simp [opened]), unparsed]
  rfl

variable {ms : List (List Byte)} (opened : s.isOpen c = true) (parses : parseBatch ps = some ms)
include opened parses

theorem requestBatch_refused {member : Nat} {status : Status}
    (refused : bookMembers c 1 ms s = .error (member, status)) :
    requestBatch c ps s = (s, status, [byteOf member]) := by
  rw [requestBatch, if_neg (by simp [opened]), parses]
  dsimp only
  rw [refused]
  rfl

theorem requestBatch_booked {t : State} {handles : List Handle} (booked : bookMembers c 1 ms s = .ok (t, handles)) :
    requestBatch c ps s
      = (t, .ok, [0x00] ++ handles.flatMap (fun h => beBytes 2 h.toNat) ++ [byteOf (t.entryCount c)]) := by
  rw [requestBatch, if_neg (by simp [opened]), parses]
  dsimp only
  rw [booked]

end

/-- A BATCH is refused without a change, or books all its members (R61). -/
theorem requestBatch_outcome (c : ClientId) (ps : List Byte) (s : State) :
    (∃ status member, status ≠ .ok ∧ member ≤ 3 ∧ requestBatch c ps s = (s, status, [byteOf member]))
    ∨ ∃ t handles, OnlyBooked s t
        ∧ requestBatch c ps s = (t, .ok, [0x00] ++ handles ++ [byteOf (t.entryCount c)]) := by
  cases opened : s.isOpen c with
  | false => exact .inl ⟨.notOpen, 0, by simp, by simp, requestBatch_notOpen opened⟩
  | true =>
    cases parsed : parseBatch ps with
    | none => exact .inl ⟨.invalid, 0, by simp, by simp, requestBatch_invalid opened parsed⟩
    | some ms =>
      have most : ms.length ≤ 3 := ((parseBatch_eq_some_iff ps ms).mp parsed).1.2
      rcases bookMembers_outcome c ms 1 s with ⟨member, status, failed, bad, place⟩ | ⟨t, handles, booked, only⟩
      · exact .inl ⟨status, member, bad, by omega, requestBatch_refused opened parsed failed⟩
      · exact .inr ⟨t, _, only, requestBatch_booked opened parsed booked⟩

/-- Settles O25: all or none, and the member that a refusal names. -/
theorem batchBooksAllOrNone : Obligations.BatchBooksAllOrNone := by
  have row : Runs .batch 0x31 requestBatch := fun _ => rfl
  refine ⟨fun s j ps held => ?_, fun s t j ms bs handles opened turn =>
    ⟨fun held least most parse => ?_, fun m rest held most parse descriptors => ?_⟩⟩
  · rcases requestBatch_outcome j.client ps s with ⟨status, member, bad, few, answer⟩ | ⟨t, handles, only, answer⟩
    · exact .inl ⟨status, member, bad, few, row.answers held answer⟩
    · exact .inr ⟨t, handles, row.answers held answer, only⟩
  · have parses := (parseBatch_eq_some_iff _ ms).mpr ⟨⟨least, most⟩, descriptors_of_parse parse, rfl⟩
    have booked : bookMembers j.client 1 ms s = .ok (t, handles) := by
      have all := bookMembers_inTurn turn parse [] 1
      rw [List.append_nil] at all
      rw [all, bookMembers, Except.map, List.append_nil]
    have members : bs.length = ms.length := by
      rw [← List.length_map (f := some), ← parse, List.length_map]
    refine row.answers held ((requestBatch_booked opened parses booked).trans ?_)
    rw [entryCount_inTurn turn, members]
  · have count : (ms ++ m :: rest).length = ms.length + 1 + rest.length := by
      simp only [List.length_append, List.length_cons]
      omega
    have parses : parseBatch (byteOf (ms.length + 1 + rest.length) :: (ms ++ m :: rest).flatten)
        = some (ms ++ m :: rest) := by
      refine (parseBatch_eq_some_iff _ _).mpr ⟨by omega, fun d mem => ?_, by rw [count]⟩
      rcases List.mem_append.mp mem with first | other
      · exact descriptors_of_parse parse d first
      · exact descriptors d other
    have judged := bookMembers_inTurn turn parse (m :: rest) 1
    rw [Nat.add_comm 1] at judged
    refine ⟨fun unparsed => ?_, fun b status parsed refused => ?_⟩
    · rw [bookMembers_unparsed unparsed] at judged
      exact row.answers held (requestBatch_refused opened parses judged)
    · rw [bookMembers_refused parsed refused] at judged
      exact row.answers held (requestBatch_refused opened parses judged)

end Sys2Proof.Machine
end

section
/-!
PROOF. What a client and the pins see of the ports: the status byte, the attention line, and what the ports drive on SDO
and SDA (R130, R149 to R151, R156, R158).
-/

namespace Sys2Proof.Machine

/-! ## The status byte and the attention line -/

theorem isDone_iff (r : ResponseSlot) : r.isDone = true ↔ ∃ q k a, r = .done q k a := by
  cases r <;> simp [ResponseSlot.isDone]

theorem wantsNotices_iff (m : AttentionMask) : m.wantsNotices = true ↔ m = .notices ∨ m = .both := by
  cases m <;> decide

theorem wantsCaptures_iff (m : AttentionMask) : m.wantsCaptures = true ↔ m = .captures ∨ m = .both := by
  cases m <;> decide

theorem not_isEmpty_iff {α : Type} (q : List α) : (!q.isEmpty) = true ↔ q ≠ [] := by
  rw [Bool.not_eq_true', List.isEmpty_eq_false_iff]

/-- The attention line of an OPEN client is asserted by what its mask includes, and by a lost notice (R130). -/
theorem attention_opened {r : Client} {d : SessionData} (opened : r.session = .opened d) :
    r.attention = true ↔ (d.mask = .notices ∨ d.mask = .both) ∧ r.notices ≠ []
      ∨ (d.mask = .captures ∨ d.mask = .both) ∧ r.captures ≠ [] ∨ r.lost = true := by
  simp only [Client.attention, opened]
  rw [Bool.or_eq_true, Bool.or_eq_true, Bool.and_eq_true, Bool.and_eq_true, wantsNotices_iff, wantsCaptures_iff,
    not_isEmpty_iff, not_isEmpty_iff, or_assoc]

/-- Settles O43: the flags are read off the status byte, and the attention line by the session. -/
theorem statusByteAndAttention : Obligations.StatusByteAndAttention := by
  intro c s
  obtain ⟨slot, done, attention, collided, frameErr, discarded, one, zero⟩ := readyStatusByte_bits c s
  refine ⟨slot, by rw [done, isDone_iff], attention, collided, frameErr, discarded, one, zero, rfl, ?_⟩
  cases session : (s.client c).session with
  | closed => simp [State.attention, Client.attention, session]
  | lapsed => simp [State.attention, Client.attention, session]
  | opened d => simpa [State.attention] using attention_opened session

/-! ## START and STOP -/

/-- The state of the two-wire port after a START or a STOP, once the port is ready (R156, R159). -/
def portAfter (condition : BusCondition) : TwoWirePort := if condition = .start then .address else .idle

/-- The port is ready and holds no part of a frame, so a START or a STOP only moves it. -/
def OutsideFrame (s : State) : Prop :=
  s.twoWire = .idle ∨ s.twoWire = .address ∨ s.twoWire = .ignoring

theorem busCondition_notReady {s : State} {busy : Bool} (before : s.twoWire = .notReady busy)
    (condition : BusCondition) :
    busCondition condition s = { s with twoWire := .notReady (decide (condition = .start)), sdaAck := false } := by
  simp only [busCondition, before]
  cases condition <;> rfl

theorem busCondition_outside {s : State} (outside : OutsideFrame s) (condition : BusCondition) :
    busCondition condition s = { s with twoWire := portAfter condition, sdaAck := false } := by
  rcases outside with before | before | before <;> cases condition <;> simp only [busCondition, before] <;> rfl

theorem busCondition_read {s : State} {c : ClientId} {status : Byte} {frame : List Byte} {bits : Nat} {ended : Bool}
    (before : s.twoWire = .read c status frame bits ended) (condition : BusCondition) :
    busCondition condition s = { s with twoWire := portAfter condition, sdaAck := false } := by
  cases condition <;> simp only [busCondition, before] <;> rfl

/-- Before a first byte, and after a frame that was placed, no frame is broken off (R159). -/
theorem busCondition_whole {s : State} {c : ClientId} {bytes : List Byte} {placed : Bool}
    (before : s.twoWire = .write c bytes placed) (whole : placed = true ∨ bytes = []) (condition : BusCondition) :
    busCondition condition s = { s with twoWire := portAfter condition, sdaAck := false } := by
  have none : (placed || bytes.isEmpty) = true := by
    rcases whole with rfl | rfl
    · rfl
    · exact Bool.or_true _
  cases condition <;> simp only [busCondition, before, none] <;> rfl

/-- Inside a frame the part received is discarded with FRAME_ERR marked (R159). -/
theorem busCondition_part {s : State} {c : ClientId} {bytes : List Byte}
    (before : s.twoWire = .write c bytes false) (part : bytes ≠ []) (condition : BusCondition) :
    busCondition condition s
      = markFrameErr c { s with twoWire := portAfter condition, sdaAck := false } := by
  have some : (false || bytes.isEmpty) = false := by simpa using part
  cases condition <;> simp only [busCondition, before, some] <;> rfl

/-- After a START or a STOP no transaction of the device drives SDA (R156). -/
theorem busCondition_releases (condition : BusCondition) (s : State) :
    (busCondition condition s).sdaLow = false := by
  have moved : ∀ u : State, ({ u with twoWire := portAfter condition, sdaAck := false } : State).sdaLow = false := by
    intro u
    cases condition <;> rfl
  cases before : s.twoWire with
  | notReady busy => rw [busCondition_notReady before]; rfl
  | idle => rw [busCondition_outside (.inl before), moved]
  | address => rw [busCondition_outside (.inr (.inl before)), moved]
  | ignoring => rw [busCondition_outside (.inr (.inr before)), moved]
  | read c status frame bits ended => rw [busCondition_read before, moved]
  | write c bytes placed =>
    by_cases whole : placed = true ∨ bytes = []
    · rw [busCondition_whole before whole, moved]
    · obtain ⟨open_, part⟩ := not_or.mp whole
      obtain rfl := Bool.eq_false_iff.mpr open_
      rw [busCondition_part before part]
      exact moved (markFrameErr c s)

/-! ## The outputs -/

/-- A byte is sent most significant bit first (R149, R158). -/
theorem sdoBit_of_byte {s : State} {n : Nat} {b : Byte} (byte : s.sdoByte (n / 8) = some b) :
    s.sdoBit n = some (b.getLsbD (7 - n % 8)) := by
  rw [State.sdoBit, byte]
  rfl

theorem sdaBit_of_byte {s : State} {n : Nat} {b : Byte} (byte : s.sdaByte (n / 8) = some b) :
    s.sdaBit n = some (b.getLsbD (7 - n % 8)) := by
  rw [State.sdaBit, byte]
  rfl

theorem sdoBit_none {s : State} (silent : ∀ k, s.sdoByte k = none) (n : Nat) : s.sdoBit n = none := by
  rw [State.sdoBit, silent]
  rfl

/-- A read sends its bytes up to the one whose acknowledge the master withheld (R158). -/
theorem sdaByte_read {s : State} {c : ClientId} {status : Byte} {frame : List Byte} {bits : Nat} {ended : Bool}
    (read : s.twoWire = .read c status frame bits ended) (k : Nat) :
    s.sdaByte k = if ended = true ∧ bits / 8 ≤ k then none else some ((status :: frame).getD k 0xFF) := by
  simp only [State.sdaByte, read, Bool.and_eq_true, decide_eq_true_eq]

/-- SDA in a read (R156, R158). -/
theorem sdaLow_read {s : State} {c : ClientId} {status : Byte} {frame : List Byte} {bits : Nat} {ended : Bool}
    (read : s.twoWire = .read c status frame bits ended) :
    s.sdaLow = true ↔ s.sdaAck = true ∨ s.sdaBit bits = some false := by
  simp only [State.sdaLow, read, Bool.or_eq_true, beq_iff_eq]

/-- Outside a read SDA is low for an acknowledge only, and no byte is sent. -/
theorem sda_outside_read {s : State}
    (outside : ∀ c status frame bits ended, s.twoWire ≠ .read c status frame bits ended) :
    s.sdaLow = s.sdaAck ∧ ∀ k, s.sdaByte k = none := by
  cases port : s.twoWire with
  | read c status frame bits ended => exact absurd port (outside c status frame bits ended)
  | notReady | idle | address | write | ignoring =>
    simp only [State.sdaLow, State.sdaByte, port, and_self, implies_true]

/-- Settles O49: SDO by the state of the four-wire port, SDA by that of the two-wire port. -/
theorem portsDriveTheirOutputs : Obligations.PortsDriveTheirOutputs := by
  refine ⟨?active, ?notReady, ?released, fun _ _ _ byte => sdoBit_of_byte byte, ?read,
    fun _ outside => sda_outside_read outside, ?bus⟩
  case active =>
    intro s t port
    exact ⟨by simp only [State.sdoDriven, port], fun k => by simp only [State.sdoByte, port]⟩
  case notReady =>
    intro s port
    have driven : s.sdoDriven = (s.selA || s.selB) := by simp only [State.sdoDriven, port]; rfl
    constructor
    · intro selected
      have drives : s.sdoDriven = true := by rw [driven, Bool.or_eq_true]; exact selected
      refine ⟨drives, ?_, fun k => ?_⟩
      · simp only [State.sdoByte, port, drives, if_true]; rfl
      · simp only [State.sdoByte, port, drives, if_true]; rfl
    · intro noA noB
      have silent : s.sdoDriven = false := by rw [driven, noA, noB]; rfl
      exact ⟨silent, sdoBit_none fun k => by simp only [State.sdoByte, port, silent]; rfl⟩
  case released =>
    intro s port
    have silent : s.sdoDriven = false := by
      rcases port with port | port | port <;> simp [State.sdoDriven, port]
    refine ⟨silent, sdoBit_none fun k => ?_⟩
    rcases port with port | port | port <;> simp [State.sdoByte, port, silent]
  case read =>
    intro s c status frame bits ended port
    refine ⟨fun k withheld late => by rw [sdaByte_read port, if_pos ⟨withheld, late⟩], fun k sends => ?_,
      fun _ _ byte => sdaBit_of_byte byte, sdaLow_read port⟩
    have byte : s.sdaByte k = some ((status :: frame).getD k 0xFF) := by
      rw [sdaByte_read port, if_neg]
      rintro ⟨ended, late⟩
      rcases sends with going | early
      · rw [going] at ended
        cases ended
      · omega
    cases k with
    | zero => exact ⟨fun _ => byte, fun _ ne => absurd rfl ne, fun short => by omega⟩
    | succ k =>
      refine ⟨fun h => (by omega), fun within _ => ?_, fun beyond => ?_⟩
      · rw [byte, List.getD_cons_succ]
        exact congrArg some (List.getD_eq_getElem _ _ within)
      · rw [byte, List.getD_cons_succ, List.getD_eq_default _ _ (by omega)]
  case bus =>
    intro s t condition step
    cases step
    exact busCondition_releases condition s

end Sys2Proof.Machine
end

section
/-!
PROOF. The four-wire port from the select on: the transactions that open and collide, and the first byte, which clears
the marks carried and may take the response frame (R149 to R155).
-/

namespace Sys2Proof.Machine

/-! ## Selects -/

theorem fourWire_setSelect (s : State) (sel : Select) (active : Bool) :
    (s.setSelect sel active).fourWire = s.fourWire := by
  cases sel <;> rfl

theorem client_setSelect (s : State) (sel : Select) (active : Bool) (c : ClientId) :
    (s.setSelect sel active).client c = s.client c := by
  cases sel <;> rfl

theorem readyStatusByte_setSelect (s : State) (sel : Select) (active : Bool) (c : ClientId) :
    readyStatusByte c (s.setSelect sel active) = readyStatusByte c s := by
  cases sel <;> rfl

theorem exec_selectActive {s : State} {sel : Select} (self : s.isActive sel = false)
    (other : s.isActive (otherSelect sel) = false) :
    exec (.selectActive sel) s = .next (openTransaction sel (s.setSelect sel true)) :=
  congrArg Host.Outcome.next (if_pos ⟨self, other⟩)

theorem exec_selectCollision {s : State} {sel : Select} (self : s.isActive sel = false)
    (other : s.isActive (otherSelect sel) = true) :
    exec (.selectCollision sel) s = .next (collide (s.setSelect sel true)) :=
  congrArg Host.Outcome.next (if_pos ⟨self, other⟩)

/-- In IDLE a select opens its client's transaction, with the status byte of that moment (R150, R151). -/
theorem selectActive_idle {s : State} {sel : Select} (self : s.isActive sel = false)
    (other : s.isActive (otherSelect sel) = false) (port : s.fourWire = .idle) :
    exec (.selectActive sel) s
      = .next { s.setSelect sel true with
          fourWire := .active { client := selectClient sel, bits := [],
                                status := readyStatusByte (selectClient sel) s, response := none } } := by
  rw [exec_selectActive self other, openTransaction]
  simp only [fourWire_setSelect, port, readyStatusByte_setSelect]

/-- In NOT_READY there is no transaction (R161). -/
theorem selectActive_notReady {s : State} {sel : Select} {released : Bool} (self : s.isActive sel = false)
    (other : s.isActive (otherSelect sel) = false) (port : s.fourWire = .notReady released) :
    exec (.selectActive sel) s = .next (s.setSelect sel true) := by
  rw [exec_selectActive self other, openTransaction]
  simp only [fourWire_setSelect, port]

/-- In ACTIVE and in VOID a collision voids the port and marks both clients (R155). -/
theorem collide_ready {s : State} (ready : ∀ released, s.fourWire ≠ .notReady released) (busy : s.fourWire ≠ .idle) :
    collide s = markCollided 1 (markCollided 0 { s with fourWire := .void }) := by
  cases port : s.fourWire with
  | notReady released => exact absurd port (ready released)
  | idle => exact absurd port busy
  | active t => simp only [collide, port]
  | void =>
    have same : { s with fourWire := .void } = s := by rw [← port]
    rw [same]
    simp only [collide, port]

theorem collide_notReady {s : State} {released : Bool} (port : s.fourWire = .notReady released) :
    collide s = { s with fourWire := .notReady true } := by
  simp only [collide, port]

/-- Both clients of the four-wire port are marked COLLIDED, and no other (R155). -/
theorem client_markCollided_both (s : State) (d : ClientId) :
    (markCollided 1 (markCollided 0 s)).client d
      = if d = 0 ∨ d = 1 then { s.client d with marks := { (s.client d).marks with collided := true } }
        else s.client d := by
  simp only [markCollided, client_modifyClient]
  by_cases zero : d = 0
  · subst zero
    simp
  · by_cases one : d = 1
    · subst one
      simp
    · simp [zero, one, Ne.symm zero, Ne.symm one]

/-- The frame of a collision: the select, the port and the marks. -/
theorem selectCollision_ready {s : State} {sel : Select} (self : s.isActive sel = false)
    (other : s.isActive (otherSelect sel) = true) (ready : ∀ released, s.fourWire ≠ .notReady released)
    (busy : s.fourWire ≠ .idle) :
    ∃ t, exec (.selectCollision sel) s = .next t
      ∧ t = { s.setSelect sel true with fourWire := .void, clients := t.clients }
      ∧ ∀ d, t.client d
          = if d = 0 ∨ d = 1 then { s.client d with marks := { (s.client d).marks with collided := true } }
            else s.client d := by
  have collides := exec_selectCollision self other
  rw [collide_ready (by simpa only [fourWire_setSelect] using ready)
    (by simpa only [fourWire_setSelect] using busy)] at collides
  refine ⟨_, collides, rfl, fun d => ?_⟩
  rw [client_markCollided_both]
  cases sel <;> rfl

/-- Settles O44: each select by the state of the port that it finds. -/
theorem selectsOpenAndCollide : Obligations.SelectsOpenAndCollide := by
  intro s sel
  cases sel with
  | selA =>
    exact ⟨fun self other port => selectActive_idle (sel := .selA) self other port,
      fun _ self other port => selectActive_notReady (sel := .selA) self other port,
      fun self other ready busy => selectCollision_ready (sel := .selA) self other ready busy,
      fun _ self other port => (exec_selectCollision (sel := .selA) self other).trans
        (congrArg Host.Outcome.next (collide_notReady port))⟩
  | selB =>
    exact ⟨fun self other port => selectActive_idle (sel := .selB) self other port,
      fun _ self other port => selectActive_notReady (sel := .selB) self other port,
      fun self other ready busy => selectCollision_ready (sel := .selB) self other ready busy,
      fun _ self other port => (exec_selectCollision (sel := .selB) self other).trans
        (congrArg Host.Outcome.next (collide_notReady port))⟩

/-! ## The first byte -/

theorem fourWireBit_early {s : State} {t : FourWireTransaction} (port : s.fourWire = .active t)
    (early : t.bits.length < 7) (b : Bool) :
    fourWireBit b s = { s with fourWire := .active { t with bits := t.bits ++ [b] } } := by
  have short : ¬(t.bits ++ [b]).length = 8 := by
    rw [List.length_append, List.length_singleton]
    omega
  simp only [fourWireBit, port, if_neg short]

/-- Bits that leave the first byte unfinished are only received (R150). -/
theorem fourWireBits_early (bits : List Bool) {s : State} {t : FourWireTransaction} (port : s.fourWire = .active t)
    (early : t.bits.length + bits.length < 8) :
    fourWireBits bits s = { s with fourWire := .active { t with bits := t.bits ++ bits } } := by
  induction bits generalizing s t with
  | nil =>
    rw [List.append_nil, ← port]
    rfl
  | cons b bits ih =>
    rw [List.length_cons] at early
    have first := fourWireBit_early port (by omega) b
    have rest := ih (s := fourWireBit b s) (t := { t with bits := t.bits ++ [b] }) (by rw [first])
      (by rw [List.length_append, List.length_singleton]; omega)
    rw [first] at rest
    show fourWireBits bits (fourWireBit b s) = _
    rw [first, rest, List.append_assoc]
    rfl

/-- The eighth bit clears the marks carried, and takes the response frame after a first byte of 00h (R152, R154). -/
theorem fourWireBit_eighth {s : State} {t : FourWireTransaction} (port : s.fourWire = .active t)
    (seven : t.bits.length = 7) (b : Bool) :
    fourWireBit b s
      = clearCarried t.client t.status
          { s with
            fourWire := .active
              { t with bits := t.bits ++ [b],
                       response := if byteOfBits (t.bits ++ [b]) = 0 then some (fetchFrame t.client s)
                         else t.response } } := by
  have eight : (t.bits ++ [b]).length = 8 := by
    rw [List.length_append, List.length_singleton, seven]
  simp only [fourWireBit, port, if_pos eight]
  by_cases zero : byteOfBits (t.bits ++ [b]) = 0
  · simp only [if_pos zero]
  · simp only [if_neg zero]

/-- A whole first byte (R152, R154). -/
theorem completeFirstByte_fresh {s : State} {c : ClientId} {status : Byte}
    (port : s.fourWire = .active { client := c, bits := [], status := status, response := none }) (first : Byte) :
    completeFirstByte first s
      = clearCarried c status
          { s with
            fourWire := .active
              { client := c, bits := bitsOfByte first, status := status,
                response := if first = 0 then some (fetchFrame c s) else none } } := by
  have opened : s.inFirstByte = some { client := c, bits := [], status := status, response := none } := by
    simp only [State.inFirstByte, port]
    rfl
  have seven := fourWireBits_early ((bitsOfByte first).take 7) port (by simp [bitsOfByte])
  have eighth := fourWireBit_eighth (s := fourWireBits ((bitsOfByte first).take 7) s) (by rw [seven]) rfl
    (bitOf first 0)
  rw [seven] at eighth
  rw [completeFirstByte, opened]
  show fourWireBit (bitOf first 0) (fourWireBits ((bitsOfByte first).take 7) s) = _
  rw [seven, eighth]
  have byte : byteOfBits (([] ++ (bitsOfByte first).take 7) ++ [bitOf first 0]) = first :=
    byteOfBits_bitsOfByte first
  rw [byte]
  rfl

/-- A FETCH sends the status byte, the frame taken, and then FFh (R149, R154). -/
theorem outByte_fetch {t : FourWireTransaction} {frame : List Byte} (taken : t.response = some frame) (k : Nat) :
    (∀ within : k < frame.length, t.outByte (k + 1) = frame[k]) ∧ (frame.length ≤ k → t.outByte (k + 1) = 0xFF) := by
  simp only [FourWireTransaction.outByte, taken, Option.getD_some]
  exact ⟨fun within => List.getD_eq_getElem _ _ within, fun beyond => List.getD_eq_default _ _ beyond⟩

/-- Settles O46: the first byte is received as one, and its value decides the response frame. -/
theorem firstByteFetchesAndClearsMarks : Obligations.FirstByteFetchesAndClearsMarks := by
  intro s c status port
  refine ⟨?_, fun first nonzero => ?_, fun t frame k taken => ⟨rfl, outByte_fetch taken k⟩, fun t k none => ⟨rfl, ?_⟩,
    fun q k r done => ?_, fun q k pending => ?_, fun empty => ?_⟩
  · exact congrArg Host.Outcome.next (completeFirstByte_fresh port 0)
  · have whole := completeFirstByte_fresh port first
    rw [if_neg nonzero] at whole
    exact congrArg Host.Outcome.next ((if_neg nonzero).trans whole)
  · simp only [FourWireTransaction.outByte, none]
    rfl
  · simp only [fetchFrame, done]
  · simp only [fetchFrame, pending]
  · simp only [fetchFrame, empty]

end Sys2Proof.Machine
end

section
/-!
PROOF. The release of a select: what the transaction received is judged, and its frame placed or discarded (R150, R152
to R154).
-/

namespace Sys2Proof.Machine

/-! ## Frames -/

theorem bitsOfByte_length (b : Byte) : (bitsOfByte b).length = 8 := rfl

theorem length_flatMap_bitsOfByte (bytes : List Byte) : (bytes.flatMap bitsOfByte).length = 8 * bytes.length := by
  induction bytes with
  | nil => rfl
  | cons b bytes ih =>
    rw [List.flatMap_cons, List.length_append, ih, bitsOfByte_length, List.length_cons]
    omega

/-- A frame of whole bytes is read back when its length and its checksum are right (R132). -/
theorem parseFrame_body (kind sequence : Byte) {params : List Byte} (short : params.length ≤ 64) :
    parseFrame ([kind, sequence, byteOf params.length] ++ params
        ++ [crc8 ([kind, sequence, byteOf params.length] ++ params)])
      = some { kind, sequence, params } := by
  have count : (byteOf params.length).toNat = params.length := toNat_byteOf _ (by omega)
  generalize sum : crc8 ([kind, sequence, byteOf params.length] ++ params) = check
  have good : (decide (params.length ≤ 64) && (params ++ [check]).length == params.length + 1
      && some (crc8 ([kind, sequence, byteOf params.length] ++ params ++ [check]).dropLast)
        == ([kind, sequence, byteOf params.length] ++ params ++ [check]).getLast?) = true := by
    rw [List.dropLast_concat, List.getLast?_concat, sum, List.length_append, List.length_singleton]
    simp [short]
  show parseFrame (kind :: sequence :: byteOf params.length :: (params ++ [check])) = _
  rw [parseFrame, count]
  refine (if_pos good).trans ?_
  rw [List.take_left]

/-- The first byte decides whether a transaction is a FETCH (R149, R154). -/
theorem isFetch_bytes (b : Byte) (bytes : List Byte) (part : List Bool) :
    isFetch ((b :: bytes).flatMap bitsOfByte ++ part) = decide (b = 0) := by
  have first : ((b :: bytes).flatMap bitsOfByte ++ part).take 8 = bitsOfByte b := by
    rw [List.flatMap_cons, List.append_assoc]
    exact List.take_left' (bitsOfByte_length b)
  have long : 8 ≤ ((b :: bytes).flatMap bitsOfByte ++ part).length := by
    rw [List.length_append, length_flatMap_bitsOfByte, List.length_cons]
    omega
  have byte : byteOfBits (bitsOfByte b) = b := byteOfBits_bitsOfByte b
  rw [isFetch, first, byte, decide_eq_true long, Bool.true_and]
  rfl

theorem isFetch_zeros {bits : List Bool} (zeros : bits.take 8 = List.replicate 8 false) : isFetch bits = true := by
  have long : 8 ≤ bits.length := by
    have len := congrArg List.length zeros
    rw [List.length_take, List.length_replicate] at len
    omega
  rw [isFetch, zeros, decide_eq_true long]
  rfl

theorem isFetch_short {bits : List Bool} (short : bits.length < 8) : isFetch bits = false := by
  rw [isFetch, decide_eq_false (by omega)]
  rfl

/-! ## The end of a transaction -/

theorem endTransaction_none {t : FourWireTransaction} (none : t.bits = []) (s : State) : endTransaction t s = s := by
  simp [endTransaction, none]

theorem endTransaction_fetch {t : FourWireTransaction} (fetch : isFetch t.bits = true) (s : State) :
    endTransaction t s = s := by
  simp [endTransaction, fetch]

/-- A part-byte is a bad form (R153). -/
theorem endTransaction_part {t : FourWireTransaction} (frame : isFetch t.bits = false) (part : t.bits.length % 8 ≠ 0)
    (s : State) : endTransaction t s = markFrameErr t.client s := by
  have filled : t.bits ≠ [] := by
    intro none
    rw [none] at part
    exact part rfl
  simp [endTransaction, frame, part, filled]

theorem endTransaction_bytes {t : FourWireTransaction} (frame : isFetch t.bits = false) (filled : t.bits ≠ [])
    (whole : t.bits.length % 8 = 0) (s : State) :
    (parseFrame (wholeBytes t.bits) = none → endTransaction t s = markFrameErr t.client s)
    ∧ ∀ f, parseFrame (wholeBytes t.bits) = some f →
        endTransaction t s
          = if (s.client t.client).request.isNone then placeFrame t.client f s else markDiscarded t.client s := by
  constructor
  · intro bad
    simp [endTransaction, frame, filled, whole, bad]
  · intro f good
    simp [endTransaction, frame, filled, whole, good]

/-! ## The release -/

theorem exec_selectRelease {s : State} {sel : Select} (active : s.isActive sel = true) (bits : List Bool) :
    exec (.selectRelease sel bits) s = .next (releaseSelect sel bits s) :=
  congrArg Host.Outcome.next (if_pos active)

/-- The state after a release with no select active any more, the port IDLE (R150). -/
def deselected (sel : Select) (s : State) : State := { s.setSelect sel false with fourWire := .idle }

/-- The marks that the status byte left standing (R152). -/
def leftMarks (status : Byte) (m : Marks) : Marks :=
  { collided := m.collided && !bitOf status 4, frameErr := m.frameErr && !bitOf status 3,
    discarded := m.discarded && !bitOf status 2 }

/-- A client's marks at the release of its select: those that the status byte carried are cleared if its eighth bit
came with the last bits (R152). -/
def marksAtRelease (t : FourWireTransaction) (bits : List Bool) (m : Marks) : Marks :=
  if t.bits.length < 8 ∧ 8 ≤ (t.bits ++ bits).length then leftMarks t.status m else m

theorem client_deselected (sel : Select) (s : State) (c : ClientId) : (deselected sel s).client c = s.client c :=
  client_setSelect s sel false c

theorem setClient_self (s : State) (c : ClientId) : s.setClient c (s.client c) = s := by
  simp [State.setClient, State.client]

/-- What the judgement of a transaction does to the client, it does whether the select is still active or not. -/
theorem endTransaction_setSelect (t : FourWireTransaction) (sel : Select) (s : State) :
    (endTransaction t s).setSelect sel false = endTransaction t (s.setSelect sel false) := by
  rw [endTransaction, endTransaction, client_setSelect]
  cases parseFrame (wholeBytes t.bits) with
  | none => split_ifs <;> cases sel <;> rfl
  | some f => split_ifs <;> cases sel <;> rfl

/-- The release of a transaction's select: the last bits are received and the whole is judged (R150, R153, R154). -/
theorem selectRelease_active {s : State} {sel : Select} {t : FourWireTransaction} (active : s.isActive sel = true)
    (port : s.fourWire = .active t) (own : t.client = selectClient sel) (bits : List Bool) :
    ∃ response,
      exec (.selectRelease sel bits) s
        = .next (endTransaction { t with bits := t.bits ++ bits, response := response }
            ((deselected sel s).setClient t.client
              { s.client t.client with marks := marksAtRelease t bits (s.client t.client).marks })) := by
  obtain ⟨response, received⟩ := fourWireBits_active bits s t port
  refine ⟨response, ?_⟩
  rw [exec_selectRelease active, releaseSelect]
  simp only [port, own, if_true]
  rw [received, ← own]
  by_cases eighth : t.bits.length < 8 ∧ 8 ≤ (t.bits ++ bits).length
  · simp only [marksAtRelease, if_pos eighth, clearCarried, State.modifyClient_fourWire, endTransaction_setSelect]
    cases sel <;> rfl
  · simp only [marksAtRelease, if_neg eighth, endTransaction_setSelect]
    rw [← client_deselected sel s t.client, setClient_self]
    cases sel <;> rfl

theorem modifyClient_setClient (s : State) (c : ClientId) (r : Client) (f : Client → Client) :
    (s.setClient c r).modifyClient c f = s.setClient c (f r) := by
  rw [State.modifyClient, client_setClient, if_pos rfl, setClient_setClient]

section
variable {s : State} {sel : Select} {t : FourWireTransaction} (active : s.isActive sel = true)
  (port : s.fourWire = .active t) (own : t.client = selectClient sel) (bits : List Bool)
include active port own

/-- A release without an edge is no transaction (R150). -/
theorem selectRelease_nothing (nothing : t.bits ++ bits = []) :
    exec (.selectRelease sel bits) s = .next (deselected sel s) := by
  obtain ⟨response, release⟩ := selectRelease_active active port own bits
  have uncleared : ¬(t.bits.length < 8 ∧ 8 ≤ (t.bits ++ bits).length) := by simp [nothing]
  rw [release, endTransaction_none nothing, marksAtRelease, if_neg uncleared, ← client_deselected sel s t.client,
    setClient_self]

/-- A FETCH ends without a mark (R154). -/
theorem selectRelease_fetch (fetch : isFetch (t.bits ++ bits) = true) :
    exec (.selectRelease sel bits) s
      = .next ((deselected sel s).setClient t.client
          { s.client t.client with marks := marksAtRelease t bits (s.client t.client).marks }) := by
  obtain ⟨response, release⟩ := selectRelease_active active port own bits
  rw [release, endTransaction_fetch fetch]

/-- A part-byte, or whole bytes of a bad form, are discarded with FRAME_ERR marked (R153). -/
theorem selectRelease_misformed (frame : isFetch (t.bits ++ bits) = false) (filled : t.bits ++ bits ≠ [])
    (bad : (t.bits ++ bits).length % 8 ≠ 0 ∨ parseFrame (wholeBytes (t.bits ++ bits)) = none) :
    exec (.selectRelease sel bits) s
      = .next ((deselected sel s).setClient t.client
          { s.client t.client with
            marks := { marksAtRelease t bits (s.client t.client).marks with frameErr := true } }) := by
  obtain ⟨response, release⟩ := selectRelease_active active port own bits
  rw [release]
  by_cases part : (t.bits ++ bits).length % 8 = 0
  · rw [(endTransaction_bytes (t := { t with bits := t.bits ++ bits, response := response }) frame filled part _).1
      (bad.resolve_left (not_not_intro part)), markFrameErr, modifyClient_setClient]
  · rw [endTransaction_part (t := { t with bits := t.bits ++ bits, response := response }) frame part, markFrameErr,
      modifyClient_setClient]

/-- A good frame is placed in the empty request slot, and discarded with DISCARDED marked otherwise (R153). -/
theorem selectRelease_frame {f : Frame} (frame : isFetch (t.bits ++ bits) = false) (filled : t.bits ++ bits ≠ [])
    (whole : (t.bits ++ bits).length % 8 = 0) (good : parseFrame (wholeBytes (t.bits ++ bits)) = some f) :
    ((s.client t.client).request = none →
      exec (.selectRelease sel bits) s
        = .next ((deselected sel s).setClient t.client
            { s.client t.client with
              request := some f, marks := marksAtRelease t bits (s.client t.client).marks }))
    ∧ ((s.client t.client).request ≠ none →
        exec (.selectRelease sel bits) s
          = .next ((deselected sel s).setClient t.client
              { s.client t.client with
                marks := { marksAtRelease t bits (s.client t.client).marks with discarded := true } })) := by
  obtain ⟨response, release⟩ := selectRelease_active active port own bits
  rw [release,
    (endTransaction_bytes (t := { t with bits := t.bits ++ bits, response := response }) frame filled whole _).2 f good,
    client_setClient, if_pos rfl]
  constructor
  · intro empty
    rw [if_pos (by rw [empty]; rfl), placeFrame, modifyClient_setClient]
  · intro occupied
    rw [if_neg (by simpa using occupied), markDiscarded, modifyClient_setClient]

/-- Fewer than eight bits (R153). -/
theorem selectRelease_short (filled : t.bits ++ bits ≠ []) (short : (t.bits ++ bits).length < 8) :
    exec (.selectRelease sel bits) s
      = .next ((deselected sel s).setClient t.client
          { s.client t.client with marks := { (s.client t.client).marks with frameErr := true } }) := by
  have some : (t.bits ++ bits).length ≠ 0 := fun none => filled (List.length_eq_zero_iff.mp none)
  have uncleared : ¬(t.bits.length < 8 ∧ 8 ≤ (t.bits ++ bits).length) := fun h => by omega
  rw [selectRelease_misformed active port own bits (isFetch_short short) filled (.inl (by omega)), marksAtRelease,
    if_neg uncleared]

/-- Whole bytes that begin with a kind, and a part-byte after them. -/
theorem selectRelease_bad_bytes {bytes : List Byte} {part : List Bool} (filled : bytes ≠ [])
    (kind : bytes.head? ≠ some 0) (short : part.length < 8) (bad : part ≠ [] ∨ parseFrame bytes = none)
    (received : t.bits ++ bits = bytes.flatMap bitsOfByte ++ part) :
    exec (.selectRelease sel bits) s
      = .next ((deselected sel s).setClient t.client
          { s.client t.client with
            marks := { marksAtRelease t bits (s.client t.client).marks with frameErr := true } }) := by
  obtain ⟨b, bytes, rfl⟩ := List.exists_cons_of_ne_nil filled
  have length : (t.bits ++ bits).length = 8 * (bytes.length + 1) + part.length := by
    rw [received, List.length_append, length_flatMap_bitsOfByte, List.length_cons]
  refine selectRelease_misformed active port own bits ?_ ?_ ?_
  · rw [received, isFetch_bytes, decide_eq_false]
    rintro rfl
    exact kind rfl
  · intro none
    rw [none, List.length_nil] at length
    omega
  · rcases bad with left | bad
    · have some : part.length ≠ 0 := fun none => left (List.length_eq_zero_iff.mp none)
      exact .inl (by omega)
    · exact .inr (by rw [received, wholeBytes_bitsOfByte _ _ short, bad])

/-- Whole bytes that are a good frame. -/
theorem selectRelease_good_bytes {kind sequence : Byte} {params : List Byte} (named : kind ≠ 0)
    (short : params.length ≤ 64)
    (received : t.bits ++ bits
      = ([kind, sequence, byteOf params.length] ++ params
          ++ [crc8 ([kind, sequence, byteOf params.length] ++ params)]).flatMap bitsOfByte) :
    ((s.client t.client).request = none →
      exec (.selectRelease sel bits) s
        = .next ((deselected sel s).setClient t.client
            { s.client t.client with
              request := some { kind, sequence, params },
              marks := marksAtRelease t bits (s.client t.client).marks }))
    ∧ ((s.client t.client).request ≠ none →
        exec (.selectRelease sel bits) s
          = .next ((deselected sel s).setClient t.client
              { s.client t.client with
                marks := { marksAtRelease t bits (s.client t.client).marks with discarded := true } })) := by
  have length : (t.bits ++ bits).length
      = 8 * ([kind, sequence, byteOf params.length] ++ params
          ++ [crc8 ([kind, sequence, byteOf params.length] ++ params)]).length := by
    rw [received, length_flatMap_bitsOfByte]
  refine selectRelease_frame active port own bits ?_ ?_ (by omega) ?_
  · have first := isFetch_bytes kind (sequence :: byteOf params.length :: (params
      ++ [crc8 ([kind, sequence, byteOf params.length] ++ params)])) []
    rw [List.append_nil, decide_eq_false named] at first
    rw [received]
    exact first
  · intro none
    rw [none, List.length_append, List.length_singleton, List.length_nil] at length
    omega
  · have read := wholeBytes_bitsOfByte ([kind, sequence, byteOf params.length] ++ params
      ++ [crc8 ([kind, sequence, byteOf params.length] ++ params)]) [] (by decide)
    rw [List.append_nil] at read
    rw [received, read, parseFrame_body kind sequence short]

end

/-- A release in VOID (R150, R155). -/
theorem selectRelease_void {s : State} {sel : Select} (active : s.isActive sel = true) (port : s.fourWire = .void)
    (bits : List Bool) :
    exec (.selectRelease sel bits) s
      = .next (if (s.setSelect sel false).isActive (otherSelect sel) = true then s.setSelect sel false
          else deselected sel s) := by
  rw [exec_selectRelease active, releaseSelect]
  simp only [port, bothInactive, fourWire_setSelect]
  rfl

/-- A release in NOT_READY (R150, R161). -/
theorem selectRelease_notReady {s : State} {sel : Select} {released : Bool} (active : s.isActive sel = true)
    (port : s.fourWire = .notReady released) (bits : List Bool) :
    exec (.selectRelease sel bits) s
      = .next (if (s.setSelect sel false).isActive (otherSelect sel) = true then s.setSelect sel false
          else if s.phase = .running then deselected sel s
          else { s.setSelect sel false with fourWire := .notReady false }) := by
  rw [exec_selectRelease active, releaseSelect]
  simp only [port, bothInactive, fourWire_setSelect]
  cases sel <;> rfl

/-- A release after a first byte of 00h ends a FETCH, whatever bits follow (R154). -/
theorem selectRelease_after_fetch {s : State} {sel : Select} {t : FourWireTransaction}
    (active : s.isActive sel = true) (port : s.fourWire = .active t) (own : t.client = selectClient sel)
    (first : t.bits = List.replicate 8 false) (bits : List Bool) :
    exec (.selectRelease sel bits) s = .next (deselected sel s) := by
  have fetch : isFetch (t.bits ++ bits) = true := isFetch_zeros (by rw [first]; exact List.take_left' rfl)
  have cleared : ¬(t.bits.length < 8 ∧ 8 ≤ (t.bits ++ bits).length) := by
    rw [first]
    exact fun h => absurd h.1 (by decide)
  rw [selectRelease_fetch active port own bits fetch, marksAtRelease, if_neg cleared,
    ← client_deselected sel s t.client, setClient_self]

/-- Settles O45: the release by the state of the port, and in a transaction by what it received. -/
theorem selectReleaseJudgesTheFrame : Obligations.SelectReleaseJudgesTheFrame := by
  intro s sel active
  cases sel with
  | selA =>
    exact ⟨fun before bits status response port =>
        ⟨selectRelease_nothing (sel := .selA) active port rfl bits,
          selectRelease_short (sel := .selA) active port rfl bits,
          fun zeros => selectRelease_fetch (sel := .selA) active port rfl bits (isFetch_zeros zeros),
          fun _ _ _ named short received =>
            selectRelease_good_bytes (sel := .selA) active port rfl bits named short received,
          fun _ _ filled kind short bad received =>
            selectRelease_bad_bytes (sel := .selA) active port rfl bits filled kind short bad received⟩,
      fun _ _ bits port => selectRelease_after_fetch (sel := .selA) active port rfl rfl bits,
      fun bits port => selectRelease_void (sel := .selA) active port bits,
      fun bits _ port => selectRelease_notReady (sel := .selA) active port bits⟩
  | selB =>
    exact ⟨fun before bits status response port =>
        ⟨selectRelease_nothing (sel := .selB) active port rfl bits,
          selectRelease_short (sel := .selB) active port rfl bits,
          fun zeros => selectRelease_fetch (sel := .selB) active port rfl bits (isFetch_zeros zeros),
          fun _ _ _ named short received =>
            selectRelease_good_bytes (sel := .selB) active port rfl bits named short received,
          fun _ _ filled kind short bad received =>
            selectRelease_bad_bytes (sel := .selB) active port rfl bits filled kind short bad received⟩,
      fun _ _ bits port => selectRelease_after_fetch (sel := .selB) active port rfl rfl bits,
      fun bits port => selectRelease_void (sel := .selB) active port bits,
      fun bits _ port => selectRelease_notReady (sel := .selB) active port bits⟩

end Sys2Proof.Machine
end

section
/-!
PROOF. The two-wire port: addresses, the bytes of a write, and the bits of a read (R156 to R159, R161).
-/

namespace Sys2Proof.Machine

/-! ## The address byte -/

theorem exec_twoWireWrite (a : BitVec 7) (bytes : List Byte) (s : State) :
    exec (.twoWireWrite a bytes) s = .next (writeTransaction a bytes s) := rfl

theorem exec_twoWireRead (a : BitVec 7) (bits : Nat) (lastAcked : Bool) (s : State) :
    exec (.twoWireRead a bits lastAcked) s = .next (readTransaction a bits lastAcked s) := rfl

/-- The address and the direction are read back from the address byte (R156). -/
theorem busAddressByte_reads (a : BitVec 7) (read : Bool) :
    addressOfByte (busAddressByte a read) = a ∧ directionOfByte (busAddressByte a read) = read := by
  revert a read
  decide +kernel

/-- The two-wire address of a client, as the options give it (R156). -/
def Addresses (a : BitVec 7) (c : ClientId) (o : Options) : Prop :=
  c = 2 ∧ a.setWidth 8 = o.address2 ∨ c = 3 ∧ a.setWidth 8 = o.address3 ∧ a.setWidth 8 ≠ o.address2

theorem clientOfAddress_of_addresses {a : BitVec 7} {c : ClientId} {o : Options} (addressed : Addresses a c o) :
    clientOfAddress a o = some c := by
  rcases addressed with ⟨rfl, second⟩ | ⟨rfl, third, other⟩
  · exact if_pos second
  · exact (if_neg other).trans (if_pos third)

theorem clientOfAddress_none {a : BitVec 7} {o : Options} (second : a.setWidth 8 ≠ o.address2)
    (third : a.setWidth 8 ≠ o.address3) : clientOfAddress a o = none :=
  (if_neg second).trans (if_neg third)

/-- After a START the port awaits an address, or it is NOT_READY with a transaction in progress (R159, R161). -/
theorem busCondition_start_port (s : State) :
    ((busCondition .start s).twoWire = .address ∨ (busCondition .start s).twoWire = .notReady true)
      ∧ (busCondition .start s).sdaAck = false := by
  cases before : s.twoWire with
  | notReady busy => rw [busCondition_notReady before]; exact ⟨.inr rfl, rfl⟩
  | idle => rw [busCondition_outside (.inl before)]; exact ⟨.inl rfl, rfl⟩
  | address => rw [busCondition_outside (.inr (.inl before))]; exact ⟨.inl rfl, rfl⟩
  | ignoring => rw [busCondition_outside (.inr (.inr before))]; exact ⟨.inl rfl, rfl⟩
  | read c status frame bits ended => rw [busCondition_read before]; exact ⟨.inl rfl, rfl⟩
  | write c bytes placed =>
    by_cases whole : placed = true ∨ bytes = []
    · rw [busCondition_whole before whole]; exact ⟨.inl rfl, rfl⟩
    · obtain ⟨unplaced, part⟩ := not_or.mp whole
      obtain rfl := Bool.eq_false_iff.mpr unplaced
      rw [busCondition_part before part]; exact ⟨.inl rfl, rfl⟩

/-- A second START at once changes nothing more. -/
theorem busCondition_start_start (s : State) :
    busCondition .start (busCondition .start s) = busCondition .start s := by
  obtain ⟨port, released⟩ := busCondition_start_port s
  generalize busCondition .start s = u at port released ⊢
  have same : ∀ port ack, u.twoWire = port → u.sdaAck = ack → { u with twoWire := port, sdaAck := ack } = u := by
    rintro _ _ rfl rfl
    rfl
  rcases port with port | port
  · exact (busCondition_outside (.inr (.inl port)) .start).trans (same _ _ port released)
  · exact (busCondition_notReady port .start).trans (same _ _ port released)

/-- A START before the address byte acts by the state that it finds, and then the address byte as ever (R159). -/
theorem addressByte_start (b : Byte) (write read : ClientId → State → State) (s : State) :
    addressByte b write read (busCondition .start s) = addressByte b write read s := by
  rw [addressByte, busCondition_start_start, addressByte]

section
variable {write read : ClientId → State → State} {s : State} {b : Byte}

theorem addressByte_notReady {busy : Bool} (port : s.twoWire = .notReady busy) :
    addressByte b write read s = { s with twoWire := .notReady true, sdaAck := false } := by
  rw [addressByte, busCondition_notReady port]
  rfl

/-- Another address is not acknowledged, and the port ignores the bus (R156). -/
theorem addressByte_other (outside : OutsideFrame s) (other : clientOfAddress (addressOfByte b) s.options = none) :
    addressByte b write read s = { s with twoWire := .ignoring, sdaAck := false } := by
  simp only [addressByte, busCondition_outside outside, portAfter, if_true, other]

/-- An address of the device is acknowledged (R156). -/
theorem addressByte_own {c : ClientId} (outside : OutsideFrame s)
    (own : clientOfAddress (addressOfByte b) s.options = some c) :
    addressByte b write read s
      = (if directionOfByte b then read else write) c { s with twoWire := .address, sdaAck := true } := by
  simp only [addressByte, busCondition_outside outside, portAfter, if_true, own]

end

/-! ## Writes -/

/-- The bytes of a write to a client's address, from the address acknowledge on (R157). -/
theorem twoWireWrite_addressed {s : State} {a : BitVec 7} {c : ClientId} (outside : OutsideFrame s)
    (addressed : Addresses a c s.options) (bytes : List Byte) :
    exec (.twoWireWrite a bytes) s = .next (bytes.foldl (fun s b => writeByte b s) (acceptByte c [] false s)) := by
  obtain ⟨address, direction⟩ := busAddressByte_reads a false
  rw [exec_twoWireWrite, writeTransaction,
    addressByte_own outside (by rw [address]; exact clientOfAddress_of_addresses addressed), direction]
  rfl

section
variable {s : State} {c : ClientId}

/-- A byte of a write, by the bytes before it (R157). -/
theorem writeByte_kind (b : Byte) :
    writeByte b (acceptByte c [] false s)
      = if (s.client c).request.isNone then acceptByte c [b] false s
        else refuseByte (markDiscarded c (acceptByte c [] false s)) := rfl

theorem writeByte_length (kind sequence b : Byte) :
    writeByte b (acceptByte c [kind, sequence] false s)
      = if b.toNat ≤ 64 then acceptByte c [kind, sequence, b] false s
        else refuseByte (markFrameErr c (acceptByte c [kind, sequence] false s)) := rfl

theorem writeByte_params (kind sequence n : Byte) (params : List Byte) (b : Byte) :
    writeByte b (acceptByte c (kind :: sequence :: n :: params) false s)
      = if params.length < n.toNat then acceptByte c ((kind :: sequence :: n :: params) ++ [b]) false s
        else if crc8 (kind :: sequence :: n :: params) = b then
          acceptByte c ((kind :: sequence :: n :: params) ++ [b]) true (placeFrame c { kind, sequence, params } s)
        else refuseByte (markFrameErr c (acceptByte c (kind :: sequence :: n :: params) false s)) := by
  rfl

theorem writeByte_placed (bytes : List Byte) (b : Byte) :
    writeByte b (acceptByte c bytes true s) = refuseByte (acceptByte c bytes true s) := rfl

/-- What follows a refused byte is ignored (R157). -/
theorem writeBytes_refused (bytes : List Byte) (s : State) :
    bytes.foldl (fun s b => writeByte b s) (refuseByte s) = refuseByte s := by
  induction bytes with
  | nil => rfl
  | cons b bytes ih => exact ih

/-- The bytes of a good frame before its checksum are acknowledged one by one (R157). -/
theorem writeByte_within {kind sequence : Byte} {params : List Byte} (short : params.length ≤ 64)
    (empty : (s.client c).request = none) {part rest : List Byte} {b : Byte}
    (body : [kind, sequence, byteOf params.length] ++ params = part ++ b :: rest) :
    writeByte b (acceptByte c part false s) = acceptByte c (part ++ [b]) false s := by
  have count : (byteOf params.length).toNat = params.length := toNat_byteOf _ (by omega)
  match part with
  | [] => rw [writeByte_kind, if_pos (by rw [empty]; rfl), List.nil_append]
  | [_] => rfl
  | [k, q] =>
    obtain ⟨-, -, rfl, -⟩ : kind = k ∧ sequence = q ∧ byteOf params.length = b ∧ params = rest := by
      simpa using body
    rw [writeByte_length, if_pos (by rw [count]; exact short)]
    rfl
  | k :: q :: n :: ps =>
    obtain ⟨-, -, rfl, more⟩ : kind = k ∧ sequence = q ∧ byteOf params.length = n ∧ params = ps ++ b :: rest := by
      simpa using body
    have room : ps.length < params.length := by
      rw [more, List.length_append, List.length_cons]
      omega
    rw [writeByte_params, if_pos (by rw [count]; exact room)]

theorem writeBytes_within {kind sequence : Byte} {params : List Byte} (short : params.length ≤ 64)
    (empty : (s.client c).request = none) {part rest : List Byte}
    (body : [kind, sequence, byteOf params.length] ++ params = part ++ rest) :
    part.foldl (fun s b => writeByte b s) (acceptByte c [] false s) = acceptByte c part false s := by
  induction part using List.reverseRecOn generalizing rest with
  | nil => rfl
  | append_singleton part b ih =>
    rw [List.append_assoc, List.singleton_append] at body
    rw [List.foldl_append, ih body]
    exact writeByte_within short empty body

/-- The checksum byte decides on the frame (R157). -/
theorem writeByte_checksum (kind sequence : Byte) {params : List Byte} (short : params.length ≤ 64) (sum : Byte) :
    let body := [kind, sequence, byteOf params.length] ++ params
    writeByte sum (acceptByte c body false s)
      = if crc8 body = sum then acceptByte c (body ++ [sum]) true (placeFrame c { kind, sequence, params } s)
        else refuseByte (markFrameErr c (acceptByte c body false s)) := by
  have count : (byteOf params.length).toNat = params.length := toNat_byteOf _ (by omega)
  exact (writeByte_params kind sequence _ params sum).trans (if_neg (by rw [count]; exact lt_irrefl _))

/-- A whole write whose checksum is that of its frame (R157). -/
theorem writeBytes_good (kind sequence : Byte) {params : List Byte} (short : params.length ≤ 64)
    (empty : (s.client c).request = none) (extra : List Byte) :
    let body := [kind, sequence, byteOf params.length] ++ params
    (body ++ crc8 body :: extra).foldl (fun s b => writeByte b s) (acceptByte c [] false s)
      = extra.foldl (fun s b => writeByte b s)
          (acceptByte c (body ++ [crc8 body]) true (placeFrame c { kind, sequence, params } s)) := by
  intro body
  rw [List.foldl_append, writeBytes_within short empty (List.append_nil _).symm, List.foldl_cons,
    writeByte_checksum kind sequence short, if_pos rfl]

/-- A wrong checksum is refused with FRAME_ERR marked, and what follows is ignored (R157). -/
theorem writeBytes_bad (kind sequence : Byte) {params : List Byte} (short : params.length ≤ 64)
    (empty : (s.client c).request = none) {sum : Byte} (rest : List Byte)
    (bad : sum ≠ crc8 ([kind, sequence, byteOf params.length] ++ params)) :
    ([kind, sequence, byteOf params.length] ++ params ++ sum :: rest).foldl (fun s b => writeByte b s)
        (acceptByte c [] false s)
      = refuseByte (markFrameErr c (acceptByte c ([kind, sequence, byteOf params.length] ++ params) false s)) := by
  rw [List.foldl_append, writeBytes_within short empty (List.append_nil _).symm, List.foldl_cons,
    writeByte_checksum kind sequence short, if_neg (Ne.symm bad), writeBytes_refused]

end

/-- Settles O47: the address is one of the device's or is not acknowledged, and the bytes are taken one by one. -/
theorem twoWireWritePlacesAFrame : Obligations.TwoWireWritePlacesAFrame := by
  refine ⟨?start, ?notReady, ?addressed⟩
  case start =>
    intro s u a bytes start
    cases start
    exact congrArg Host.Outcome.next (addressByte_start _ _ _ s).symm
  case notReady =>
    intro s a bytes busy port
    exact congrArg Host.Outcome.next (addressByte_notReady port)
  case addressed =>
    intro s a c outside addressed
    have write := twoWireWrite_addressed outside addressed
    refine ⟨write [], fun kind sequence params short empty => ⟨?good, ?extra, ?bad, ?part⟩, ?long, ?occupied, ?other⟩
    case good => exact (write _).trans (congrArg Host.Outcome.next (writeBytes_good kind sequence short empty []))
    case extra =>
      intro extra more
      obtain ⟨b, extra, rfl⟩ := List.exists_cons_of_ne_nil more
      refine (write _).trans (congrArg Host.Outcome.next ?_)
      rw [writeBytes_good kind sequence short empty, List.foldl_cons, writeByte_placed, writeBytes_refused]
      rfl
    case bad =>
      intro sum rest bad
      refine (write _).trans (congrArg Host.Outcome.next ?_)
      rw [writeBytes_bad kind sequence short empty rest bad]
      rfl
    case part =>
      intro part rest body _
      exact (write _).trans (congrArg Host.Outcome.next (writeBytes_within short empty body))
    case long =>
      intro kind sequence n rest empty long
      refine (write _).trans (congrArg Host.Outcome.next ?_)
      rw [List.foldl_cons, writeByte_kind, if_pos (by rw [empty]; rfl), List.foldl_cons, List.foldl_cons]
      show rest.foldl (fun s b => writeByte b s) (writeByte n (acceptByte c [kind, sequence] false s)) = _
      rw [writeByte_length, if_neg (by omega), writeBytes_refused]
      rfl
    case occupied =>
      intro kind rest occupied
      refine (write _).trans (congrArg Host.Outcome.next ?_)
      rw [List.foldl_cons, writeByte_kind, if_neg (by simpa using occupied), writeBytes_refused]
      rfl
    case other =>
      intro b bytes second third
      refine congrArg Host.Outcome.next (addressByte_other outside ?_)
      rw [(busAddressByte_reads b false).1]
      exact clientOfAddress_none second third

/-! ## Reads -/

/-- The status byte carries every mark that is set, so sending it clears them all (R151, R152). -/
theorem clearCarried_ready (c : ClientId) (s : State) :
    clearCarried c (readyStatusByte c s) s
      = s.setClient c { s.client c with marks := { collided := false, frameErr := false, discarded := false } } := by
  obtain ⟨-, -, -, collided, frameErr, discarded, -⟩ := readyStatusByte_bits c s
  simp only [clearCarried, State.modifyClient, bitOf, collided, frameErr, discarded, Bool.and_not_self]

/-- A read of a client's address, from the address acknowledge on (R158). -/
theorem twoWireRead_addressed {s : State} {a : BitVec 7} {c : ClientId} (outside : OutsideFrame s)
    (addressed : Addresses a c s.options) (bits : Nat) (acked : Bool) :
    exec (.twoWireRead a bits acked) s
      = .next (sendBits bits acked c { s with twoWire := .address, sdaAck := true }) := by
  obtain ⟨address, direction⟩ := busAddressByte_reads a true
  rw [exec_twoWireRead, readTransaction,
    addressByte_own outside (by rw [address]; exact clientOfAddress_of_addresses addressed), direction]
  rfl

/-- Settles O48: reads by the address and the port, START and STOP by the port. -/
theorem twoWireReadsAndBusConditions : Obligations.TwoWireReadsAndBusConditions := by
  refine ⟨?start, ?notReady, ?other, ?read, ?bus⟩
  case start =>
    intro s u a bits acked start
    cases start
    exact congrArg Host.Outcome.next (addressByte_start _ _ _ s).symm
  case notReady =>
    intro s a bits acked busy port
    exact congrArg Host.Outcome.next (addressByte_notReady port)
  case other =>
    intro s a bits acked outside second third
    refine congrArg Host.Outcome.next (addressByte_other outside ?_)
    rw [(busAddressByte_reads a true).1]
    exact clientOfAddress_none second third
  case read =>
    intro s a c bits acked outside addressed
    have read := twoWireRead_addressed outside addressed bits acked
    refine ⟨fun few => read.trans (congrArg Host.Outcome.next (if_neg (by omega))),
      fun byte => read.trans (congrArg Host.Outcome.next ((if_pos byte).trans ?_))⟩
    exact clearCarried_ready c
      { s with
        twoWire := .read c (readyStatusByte c s) (fetchFrame c s) bits (decide (8 ≤ bits) && !acked)
        sdaAck := decide (bits = 0) }
  case bus =>
    intro s condition
    refine ⟨fun busy port => congrArg Host.Outcome.next (busCondition_notReady port condition),
      fun outside => congrArg Host.Outcome.next (busCondition_outside outside condition),
      fun _ _ _ _ _ port => congrArg Host.Outcome.next (busCondition_read port condition),
      fun _ _ placed port => ⟨fun whole => congrArg Host.Outcome.next (busCondition_whole port whole condition),
        fun unplaced part => ?_⟩⟩
    subst unplaced
    exact congrArg Host.Outcome.next (busCondition_part port part condition)

end Sys2Proof.Machine
end

section
/-!
PROOF. The option store: STORE_OPTIONS chooses its target by the newest copy, and the completion verifies the bytes read
back (R171, R173, R174).
-/

namespace Sys2Proof.Machine

/-! ## The newest copy -/

theorem newerThan_iff (g h : BitVec 16) :
    newerThan g h = true ↔ 1 ≤ (g - h).toNat ∧ (g - h).toNat ≤ 32767 := by
  simp only [newerThan, Bool.and_eq_true, decide_eq_true_eq]

/-- Copy B is the newest (R171). -/
def NewerB (a b : CopyRecord) : Prop :=
  b.good = true ∧ (a.good = false
    ∨ (1 ≤ (b.generation - a.generation).toNat ∧ (b.generation - a.generation).toNat ≤ 32767))

theorem newestCopy_none {a b : CopyRecord} (badA : a.good = false) (badB : b.good = false) :
    newestCopy a b = none := by
  simp only [newestCopy, badA, badB]

theorem newestCopy_b {a b : CopyRecord} (newer : NewerB a b) : newestCopy a b = some .b := by
  obtain ⟨goodB, badA | ahead⟩ := newer
  · simp only [newestCopy, badA, goodB]
  · cases goodA : a.good
    · simp only [newestCopy, goodA, goodB]
    · simp only [newestCopy, goodA, goodB, (newerThan_iff _ _).mpr ahead, if_true]

theorem newestCopy_a {a b : CopyRecord} (goodA : a.good = true) (newer : ¬NewerB a b) : newestCopy a b = some .a := by
  cases goodB : b.good
  · simp only [newestCopy, goodA, goodB]
  · have behind : ¬newerThan b.generation a.generation = true := fun ahead =>
      newer ⟨goodB, .inr ((newerThan_iff _ _).mp ahead)⟩
    simp only [newestCopy, goodA, goodB, if_neg behind]

/-! ## STORE_OPTIONS -/

theorem parseStoreImage_imageBytes {o : Options} (fields : FieldsInRange o)
    (addresses : addressesValid o.address2 o.address3 = true) :
    parseStoreImage (imageBytes o) = some (imageBytes o) := by
  rw [parseStoreImage, parseImage_imageBytes fields]
  exact if_pos addresses

/-- The state in which a store to a copy has been accepted (R173). -/
def storing (job : StoreJob) (s : State) : State :=
  { s.setRecord job.target { s.record job.target with good := false } with store := some job }

/-- An accepted STORE_OPTIONS (R173). -/
theorem storeOptions_accepted {s : State} {j : EngineJob} {o : Options} (fields : FieldsInRange o)
    (addresses : addressesValid o.address2 o.address3 = true) (held : Executing s j 0x61 (imageBytes o))
    (opened : s.isOpen j.client = true) (holder : s.authority = some j.client) (free : s.store = none)
    {target : CopyName} {g : BitVec 16} (chosen : storeTarget s = (target, g)) :
    exec .storeOptions s
      = .next ((storing
          { requester := j.client, target := target, generation := g, image := imageBytes o,
            acceptedAt := s.run } s).replied j .ok ([copyCode target] ++ beBytes 2 g.toNat)) := by
  have row : Runs .storeOptions 0x61 requestStoreOptions := fun _ => rfl
  refine row.answers held ?_
  rw [requestStoreOptions, gated_holder opened (parseStoreImage_imageBytes fields addresses) holder, free, chosen]
  rfl

/-- Settles O37: the checks in their order, and then the target by the newest copy. -/
theorem storeOptionsIsAccepted : Obligations.StoreOptionsIsAccepted := by
  intro s j o fields addresses held opened
  have row : Runs .storeOptions 0x61 requestStoreOptions := fun _ => rfl
  have parses := parseStoreImage_imageBytes fields addresses
  refine ⟨fun other => row.answers held (gated_other opened parses other _), fun holder busy => row.answers held ?_,
    fun holder free => ?_⟩
  · rw [requestStoreOptions, gated_holder opened parses holder, if_pos (Option.isSome_iff_ne_none.mpr busy)]
    rfl
  · have accepts := fun target g (chosen : storeTarget s = (target, g)) =>
      storeOptions_accepted fields addresses held opened holder free chosen
    refine ⟨fun badA badB => accepts .a 1 ?_, fun newer => accepts .a (nextGeneration s.recordB.generation) ?_,
      fun goodA newer => accepts .b (nextGeneration s.recordA.generation) ?_⟩
    · rw [storeTarget, newestCopy_none badA badB]
    · rw [storeTarget, newestCopy_b newer]
      rfl
    · rw [storeTarget, newestCopy_a goodA newer]
      rfl

/-! ## Store completion -/

theorem exec_storeCompletion (back : List Byte) (s : State) :
    exec (.storeCompletion back) s = .next (completeStore back s) := rfl

theorem storeDue_iff {s : State} {job : StoreJob} (stored : s.store = some job) :
    s.storeDue = if 8000 ≤ distanceAhead s.run job.acceptedAt then some job else none := by
  rw [State.storeDue, stored, Option.filter_some]
  by_cases due : 8000 ≤ distanceAhead s.run job.acceptedAt
  · rw [if_pos due]
    exact if_pos (hasAdvanced_iff.mpr due)
  · rw [if_neg due]
    exact if_neg fun h => due (hasAdvanced_iff.mp h)

/-- The state with the bytes read back in the target copy, whose record is good if they are verified (R174). -/
def stored (job : StoreJob) (back : List Byte) (verified : Bool) (s : State) : State :=
  let s := s.setCopy job.target back
  let s := if verified then s.setRecord job.target { good := true, generation := job.generation } else s
  { s with store := none }

theorem finishStore_eq (job : StoreJob) (back : List Byte) (s : State) :
    finishStore job back s
      = postNotice job.requester .store 0 (.store (decide (back = copyBytes job.image job.generation)) job.target) 0
          (stored job back (decide (back = copyBytes job.image job.generation)) s) := by
  have verified := beq_eq_decide back (copyBytes job.image job.generation)
  simp only [finishStore, verified]
  rfl

theorem stored_copies (job : StoreJob) (back : List Byte) (verified : Bool) (s : State) :
    (stored job back verified s).copy job.target = back
    ∧ (stored job back verified s).copy job.target.other = s.copy job.target.other
    ∧ (stored job back verified s).record job.target.other = s.record job.target.other
    ∧ (stored job back verified s).record job.target
        = if verified then { good := true, generation := job.generation } else s.record job.target := by
  rw [stored]
  generalize job.target = target
  cases target <;> cases verified <;> exact ⟨rfl, rfl, rfl, rfl⟩

theorem stored_frame (job : StoreJob) (back : List Byte) (verified : Bool) (s : State) :
    stored job back verified s
      = { s with
          store := none, copyA := (stored job back verified s).copyA, copyB := (stored job back verified s).copyB,
          recordA := (stored job back verified s).recordA, recordB := (stored job back verified s).recordB } := by
  rw [stored]
  generalize job.target = target
  cases target <;> cases verified <;> rfl

/-- The state after a completion, one copy at a time: the target with the bytes read back, the other as it was
(R174). -/
structure StoredIn (n : CopyName) (job : StoreJob) (back : List Byte) (verified : Prop) (s t : State) : Prop where
  copy : t.copy n = back
  otherCopy : t.copy n.other = s.copy n.other
  otherRecord : t.record n.other = s.record n.other
  good : verified → t.record n = { good := true, generation := job.generation }
  kept : ¬verified → t.record n = s.record n

theorem StoredIn.good_iff {n : CopyName} {job : StoreJob} {back : List Byte} {verified : Prop} {s t : State}
    (h : StoredIn n job back verified s t) (notGood : (s.record n).good = false) :
    (t.record n).good = true ↔ verified := by
  by_cases v : verified
  · simp only [h.good v, v]
  · simp only [h.kept v, notGood, v, Bool.false_eq_true]

/-- The posting of STORE leaves the copies and their records. -/
theorem storedIn_of_onlyNotices {job : StoreJob} {back : List Byte} {verified : Prop} [Decidable verified] {s t : State}
    (notices : OnlyNotices (stored job back (decide verified) s) t) :
    StoredIn job.target job back verified s t := by
  have copies : ∀ n, t.copy n = (stored job back (decide verified) s).copy n := fun n =>
    notices.same (fun u => u.copy n) (by cases n <;> exact fun _ _ => rfl)
  have records : ∀ n, t.record n = (stored job back (decide verified) s).record n := fun n =>
    notices.same (fun u => u.record n) (by cases n <;> exact fun _ _ => rfl)
  obtain ⟨copy, otherCopy, otherRecord, record⟩ := stored_copies job back (decide verified) s
  simp only [decide_eq_true_eq] at record
  exact ⟨(copies _).trans copy, (copies _).trans otherCopy, (records _).trans otherRecord,
    fun v => (records _).trans (record.trans (if_pos v)), fun v => (records _).trans (record.trans (if_neg v))⟩

/-- Settles O38: the target copy takes the bytes read back, and its record is good if they are those written. -/
theorem storeCompletionVerifies : Obligations.StoreCompletionVerifies := by
  intro s job back inProgress length
  refine ⟨fun due => ?done, fun early => ?early⟩
  case early =>
    rw [exec_storeCompletion, completeStore, storeDue_iff inProgress, if_neg (by omega)]
  case done =>
    intro body verified
    obtain ⟨t, posted⟩ : ∃ t, t = postNotice job.requester .store 0 (.store (decide verified) job.target) 0
      (stored job back (decide verified) s) := ⟨_, rfl⟩
    have finished : exec (.storeCompletion back) s = .next t := by
      rw [exec_storeCompletion, completeStore, storeDue_iff inProgress, if_pos due, posted]
      exact congrArg Host.Outcome.next ((if_pos length).trans (finishStore_eq job back s))
    have notices : OnlyNotices (stored job back (decide verified) s) t := by
      rw [posted]
      exact postNotice_onlyNotices ..
    have frame := stored_frame job back (decide verified) s
    have clients : t.clients
        = (postNotice job.requester .store 0 (.store (decide verified) job.target) 0 s).clients := by
      rw [posted]
      exact clients_postNotice_congr _ _ _ _ _ s _ ((congrArg State.clients frame).trans rfl)
        ((congrArg State.run frame).trans rfl)
    have judged := storedIn_of_onlyNotices notices
    obtain ⟨vs, only, -⟩ := notices
    refine ⟨t, finished, (congrArg State.store only).trans (congrArg State.store frame), ?_, clients,
      fun target => ?_, fun target => ?_⟩
    · subst only
      exact congrArg (fun u : State => { u with clients := vs }) frame
    · rw [target] at judged
      exact ⟨judged.copy, judged.otherCopy, judged.otherRecord, judged.good, judged.kept,
        fun h => judged.good_iff ((h.target job inProgress).1 target)⟩
    · rw [target] at judged
      exact ⟨judged.copy, judged.otherCopy, judged.otherRecord, judged.good, judged.kept,
        fun h => judged.good_iff ((h.target job inProgress).2 target)⟩

end Sys2Proof.Machine
end

section
/-!
PROOF. The option load: which copy is used, and what the load leaves (R14, R171, R172, R178).
-/

namespace Sys2Proof.Machine

/-! ## A copy that holds an image -/

theorem length_imageBytes (o : Options) : (imageBytes o).length = 28 := by
  rw [imageBytes_eq]
  rfl

section
variable {o : Options} {g : BitVec 16}

theorem take_copyBytes : (copyBytes (imageBytes o) g).take 28 = imageBytes o := by
  rw [copyBytes, List.append_assoc]
  exact List.take_left' (length_imageBytes o)

theorem copyGeneration_copyBytes : copyGeneration (copyBytes (imageBytes o) g) = g := by
  have bytes : ((copyBytes (imageBytes o) g).drop 28).take 2 = beBytes 2 g.toNat := by
    rw [copyBytes, List.append_assoc, List.drop_left' (length_imageBytes o)]
    exact List.take_left' (length_beBytes 2 g.toNat)
  rw [copyGeneration, bytes, ofNat_beNat_beBytes 2 g (by norm_num)]

/-- A copy as written has the checksum of its bytes (R171, R180). -/
theorem copyChecksumOk_copyBytes : copyChecksumOk (copyBytes (imageBytes o) g) = true := by
  have body : (imageBytes o ++ beBytes 2 g.toNat).length = 30 := by
    rw [List.length_append, length_imageBytes, length_beBytes]
  rw [copyChecksumOk, copyBytes, List.take_left' body, List.drop_left' body, List.length_append, body, length_beBytes,
    ofNat_beNat_beBytes 2 _ (by norm_num), beq_self_eq_true, beq_self_eq_true]
  rfl

/-- A copy as written is good, with its generation (R171). -/
theorem recordOf_copyBytes (fields : FieldsInRange o) (nonzero : g ≠ 0) :
    recordOf (copyBytes (imageBytes o) g) = { good := true, generation := g } := by
  have good : copyGood (copyBytes (imageBytes o) g) = true := by
    rw [copyGood, copyChecksumOk_copyBytes, copyGeneration_copyBytes, take_copyBytes, parseImage_imageBytes fields,
      bne_iff_ne.mpr nonzero]
    rfl
  rw [recordOf, good, copyGeneration_copyBytes]

end

/-! ## The choice -/

theorem loadOptions_defaults {a b : List Byte} (badA : copyGood a = false) (badB : copyGood b = false) :
    loadOptions a b = (.default, .defaults) := by
  rw [loadOptions, newestCopy_none (a := recordOf a) (b := recordOf b) badA badB]

theorem loadOptions_a {a b : List Byte} {o : Options} (newest : newestCopy (recordOf a) (recordOf b) = some .a)
    (image : parseImage (a.take 28) = some o) : loadOptions a b = (withAddressFallback o, .copyA) := by
  rw [loadOptions, newest, image]
  rfl

theorem loadOptions_b {a b : List Byte} {o : Options} (newest : newestCopy (recordOf a) (recordOf b) = some .b)
    (image : parseImage (b.take 28) = some o) : loadOptions a b = (withAddressFallback o, .copyB) := by
  rw [loadOptions, newest, image]
  rfl

theorem parseImage_take_copyBytes {o : Options} (fields : FieldsInRange o) (g : BitVec 16) :
    parseImage ((copyBytes (imageBytes o) g).take 28) = some o := by
  rw [take_copyBytes, parseImage_imageBytes fields]

/-- Copy A holds an image and is the newest (R171, R172). -/
theorem loadOptions_copyA {a b : List Byte} {o : Options} {g : BitVec 16} (fields : FieldsInRange o) (nonzero : g ≠ 0)
    (held : a = copyBytes (imageBytes o) g)
    (newest : copyGood b = false ∨ 32768 ≤ (copyGeneration b - g).toNat ∨ copyGeneration b = g) :
    loadOptions a b = (withAddressFallback o, .copyA) := by
  subst held
  refine loadOptions_a (newestCopy_a (congrArg CopyRecord.good (recordOf_copyBytes fields nonzero)) ?_)
    (parseImage_take_copyBytes fields g)
  rw [recordOf_copyBytes fields nonzero]
  rintro ⟨goodB, bad | ⟨ahead, near⟩⟩
  · cases bad
  · rcases newest with badB | far | same
    · exact absurd (goodB.symm.trans badB) (by simp)
    · exact absurd (far.trans near) (by decide)
    · have none : (copyGeneration b - g).toNat = 0 := by rw [same, BitVec.sub_self]; rfl
      exact absurd (ahead.trans_eq none) (by decide)

/-- Copy B holds an image and is the newest (R171, R172). -/
theorem loadOptions_copyB {a b : List Byte} {o : Options} {g : BitVec 16} (fields : FieldsInRange o) (nonzero : g ≠ 0)
    (held : b = copyBytes (imageBytes o) g)
    (newest : copyGood a = false ∨ 1 ≤ (g - copyGeneration a).toNat ∧ (g - copyGeneration a).toNat ≤ 32767) :
    loadOptions a b = (withAddressFallback o, .copyB) := by
  subst held
  refine loadOptions_b (newestCopy_b ?_) (parseImage_take_copyBytes fields g)
  rw [recordOf_copyBytes fields nonzero]
  exact ⟨rfl, newest⟩

/-! ## The load -/

theorem exec_optionLoad {s : State} (before : s.phase = .beforeOptionLoad) :
    exec .optionLoad s = .next (optionLoad s) := congrArg Host.Outcome.next (if_pos before)

theorem optionLoad_frame (s : State) :
    optionLoad s
      = { s with
          phase := .beforeClockStart, options := (optionLoad s).options, optionStatus := (optionLoad s).optionStatus,
          recordA := (optionLoad s).recordA, recordB := (optionLoad s).recordB, lines := (optionLoad s).lines,
          proving := (optionLoad s).proving, missingCycles := 0 } := rfl

theorem optionLoad_choice (s : State) {o : Options} {status : OptionStatus}
    (chosen : loadOptions s.copyA s.copyB = (o, status)) :
    (optionLoad s).options = o ∧ (optionLoad s).optionStatus = status :=
  ⟨congrArg Prod.fst chosen, congrArg Prod.snd chosen⟩

/-- Settles O42: the load by the copies as read, and what it leaves of the lines and of the proving. -/
theorem optionLoadChoosesTheOptions : Obligations.OptionLoadChoosesTheOptions := by
  intro s before
  have proving : (optionLoad s).proving = provingAtStart (optionLoad s).options.startClock := rfl
  refine ⟨_, exec_optionLoad before, optionLoad_frame s, fun main => by rw [proving, main]; rfl,
    fun backup => by rw [proving, backup]; rfl, line_optionLoad s, rfl, rfl,
    fun badA badB => optionLoad_choice s (loadOptions_defaults badA badB), fun o g fields nonzero => ?_⟩
  refine ⟨fun held => ⟨?_, fun badB => optionLoad_choice s (loadOptions_copyA fields nonzero held (.inl badB)),
      fun _ older => optionLoad_choice s (loadOptions_copyA fields nonzero held (.inr older))⟩,
    fun held => ⟨?_, fun badA => optionLoad_choice s (loadOptions_copyB fields nonzero held (.inl badA)),
      fun _ ahead near => optionLoad_choice s (loadOptions_copyB fields nonzero held (.inr ⟨ahead, near⟩))⟩⟩
  · exact (congrArg recordOf held).trans (recordOf_copyBytes fields nonzero)
  · exact (congrArg recordOf held).trans (recordOf_copyBytes fields nonzero)

end Sys2Proof.Machine
end

section
/-!
PROOF. The start sequence and clock start: the release of a reset, the cycles that are counted, and ports ready (R9,
R14, R161, R168, R177, R178).
-/

namespace Sys2Proof.Machine

/-! ## The release of a reset -/

theorem exec_startSequence (v : Nat) (pin : PinLevel) (s : State) :
    exec (.startSequence v pin) s = .next (if releasable v pin s = true then startSequence v s else s) := rfl

theorem releasable_iff (v : Nat) (pin : PinLevel) (s : State) :
    releasable v pin s = true
      ↔ s.phase = .heldInReset ∧ 1200000 ≤ s.supplyUv ∧ 2500000 < v ∧ pin = .high := by
  rw [releasable, Bool.and_eq_true, Bool.and_eq_true, Bool.and_eq_true, beq_iff_eq, beq_iff_eq, decide_eq_true_eq,
    decide_eq_true_eq, and_assoc, and_assoc]
  rfl

theorem startSequence_not_released {v : Nat} {pin : PinLevel} {s : State}
    (held : ¬(s.phase = .heldInReset ∧ 1200000 ≤ s.supplyUv ∧ 2500000 < v ∧ pin = .high)) :
    exec (.startSequence v pin) s = .next s :=
  (exec_startSequence v pin s).trans (congrArg Host.Outcome.next (if_neg (mt (releasable_iff v pin s).mp held)))

/-! ## Clock start -/

theorem exec_clockStart {s : State} (starting : s.phase = .beforeClockStart) (cycles : List Oscillator) :
    exec (.clockStart cycles) s = .next (runClockStart cycles s) := congrArg Host.Outcome.next (if_pos starting)

theorem exec_clockStart_other {s : State} (other : s.phase ≠ .beforeClockStart) (cycles : List Oscillator) :
    exec (.clockStart cycles) s = .next s := congrArg Host.Outcome.next (if_neg other)

theorem clockStartOver_none {s : State} (none : s.proving = none) : s.clockStartOver = true := by
  simp only [State.clockStartOver, none]

theorem clockStartOver_some {s : State} {p : Proving} (some : s.proving = some p) :
    s.clockStartOver = true ↔ 16384 ≤ p.good ∨ p.left = 0 := by
  simp only [State.clockStartOver, some, Bool.or_eq_true, decide_eq_true_eq, beq_iff_eq]
  rfl

theorem startedClock_some (p : Proving) : startedClock (some p) = if 16384 ≤ p.good then .main else .backup := by
  rw [startedClock, Option.any_some]
  by_cases proven : 16384 ≤ p.good
  · rw [if_pos proven]
    exact if_pos (decide_eq_true proven)
  · rw [if_neg proven]
    exact if_neg fun h => proven (of_decide_eq_true h)

/-- The ways in which clock start ends, and the clock state that each gives (R14). -/
def EndsIn (clock : ClockState) (s : State) : Prop :=
  clock = .main ∧ (∃ p, s.proving = some p ∧ 16384 ≤ p.good)
    ∨ clock = .backup ∧ (s.proving = none ∨ ∃ p, s.proving = some p ∧ p.good < 16384 ∧ p.left = 0)

theorem clockStartOver_of_ends {clock : ClockState} {s : State} (ends : EndsIn clock s) :
    s.clockStartOver = true ∧ startedClock s.proving = clock := by
  rcases ends with ⟨rfl, p, proving, proven⟩ | ⟨rfl, none | ⟨p, proving, unproven, out⟩⟩
  · exact ⟨(clockStartOver_some proving).mpr (.inl proven), by rw [proving, startedClock_some, if_pos proven]⟩
  · exact ⟨clockStartOver_none none, by rw [none]; rfl⟩
  · exact ⟨(clockStartOver_some proving).mpr (.inr out), by rw [proving, startedClock_some, if_neg (by omega)]⟩

/-- At ports ready a port leaves NOT_READY, but for selects that are still active and a transaction in progress
(R161). -/
theorem clockStart_ports (s : State) :
    (∀ void, s.fourWire = .notReady void → s.selA = false → s.selB = false → (clockStart s).fourWire = .idle)
    ∧ (∀ void, s.fourWire = .notReady void → s.selA = true ∨ s.selB = true →
        (clockStart s).fourWire = .notReady void)
    ∧ (s.twoWire = .notReady false → (clockStart s).twoWire = .idle)
    ∧ (s.twoWire = .notReady true → (clockStart s).twoWire = .ignoring) := by
  refine ⟨fun void port noA noB => ?_, fun void port selected => ?_, fun port => ?_, fun port => ?_⟩
  · simp only [clockStart, portsReady, port, noA, noB]
    rfl
  · simp only [clockStart, portsReady, port]
    exact if_pos (Bool.or_eq_true _ _ ▸ selected)
  · simp only [clockStart, portsReady, port]
    rfl
  · simp only [clockStart, portsReady, port]
    rfl

theorem clockStart_frame {s : State} {clock : ClockState} (started : startedClock s.proving = clock) :
    clockStart s
      = { s with
          clock := some clock, restartProgress := 0, startWindow := none, missingCycles := 0, proving := none,
          divider := 0, timebase := 0, run := 0, phase := .running, fourWire := (clockStart s).fourWire,
          twoWire := (clockStart s).twoWire } := by
  subst started
  rfl

theorem step_idle {s : State} (empty : s.pending = []) : step s = .next (idle s) := by
  rw [step, empty]

theorem idle_beforeClockStart {s : State} (starting : s.phase = .beforeClockStart) :
    idle s = if s.clockStartOver = true then clockStart s else superviseCycle s.nextOscillator (s.useFree 1) := by
  rw [idle, starting]

/-! ## The cycles of clock start -/

/-- A cycle of clock start is counted as R9 and R14 give it. -/
theorem superviseCycle_startCycleCounted {s : State} {p : Proving} (unstarted : s.clock = none)
    (proving : s.proving = some p) (few : p.good < 16384) (o : Oscillator) :
    StartCycleCounted o p s (superviseCycle o s) := by
  have main : mainCycle s = { s with proving := some p.edge, missingCycles := 0 } := by
    simp only [mainCycle, unstarted, proving, Option.map_some]
  have backup : backupCycle s = provingBackupCycle p s := by
    simp only [backupCycle, unstarted, proving]
  refine ⟨?first, ?good, ?unwatched, ?silence, ?missing⟩
  case first =>
    rintro rfl unseen
    rw [superviseCycle, main, Proving.edge, unseen]
    rfl
  case good =>
    rintro rfl seen
    rw [superviseCycle, main, Proving.edge, seen, Nat.min_eq_left (show p.good + 1 ≤ Config.provingRun from few)]
    rfl
  case unwatched =>
    rintro rfl unseen
    rw [superviseCycle, backup, provingBackupCycle, unseen]
    rfl
  case silence =>
    rintro rfl seen short
    have early : ¬Config.missingEdgeCycles ≤ s.missingCycles + 1 := by
      rw [Config.missingEdgeCycles]
      omega
    rw [superviseCycle, backup, provingBackupCycle, if_pos seen, if_neg early]
  case missing =>
    rintro rfl seen third
    have fourth : Config.missingEdgeCycles ≤ s.missingCycles + 1 := by
      rw [Config.missingEdgeCycles]
      omega
    rw [superviseCycle, backup, provingBackupCycle, if_pos seen, if_pos fourth]

/-- A cycle does not depend on the choices left free so far. -/
theorem superviseCycle_useFree {s : State} {p : Proving} (unstarted : s.clock = none) (proving : s.proving = some p)
    (o : Oscillator) :
    superviseCycle o (s.useFree 1) = { superviseCycle o s with freeCount := s.freeCount + 1 } := by
  cases o
  · simp only [superviseCycle, mainCycle, State.useFree, unstarted]
  · simp only [superviseCycle, backupCycle, State.useFree, unstarted, proving, provingBackupCycle]
    split_ifs <;> rfl

theorem superviseCycle_phase (o : Oscillator) (s : State) : (superviseCycle o s).phase = s.phase := by
  obtain ⟨_, _, _, _, counts⟩ := superviseCycle_counts o s
  rw [counts]

/-- Clock start after a first cycle that does not end it: the rest of the cycles decide whether it ends (R14). -/
theorem exec_clockStart_cons {s t : State} {o : Oscillator} {rest : List Oscillator}
    (starting : s.phase = .beforeClockStart) (going : s.clockStartOver = false)
    (after : exec (.clockStart rest) (superviseCycle o s) = .next t) :
    exec (.clockStart (o :: rest)) s = .next (if t.phase = .running then t else s) := by
  have phase := (superviseCycle_phase o s).trans starting
  rw [exec_clockStart phase, runClockStart] at after
  cases after
  rw [exec_clockStart starting, runClockStart_cons o rest s going]
  by_cases ended : (rest.foldl startCycle (superviseCycle o s)).clockStartOver = true
  · rw [if_pos ended, if_pos ended]
    exact congrArg Host.Outcome.next (if_pos rfl).symm
  · rw [if_neg ended, if_neg ended, phase]
    rfl

/-- Settles O41: the release by its conditions, and clock start by what its proving has come to. -/
theorem startSequenceAndClockStart : Obligations.StartSequenceAndClockStart := by
  intro s
  refine ⟨fun v held kept risen => ?release, fun v low => startSequence_not_released (by omega),
    fun v => startSequence_not_released (by simp), fun cycles other => exec_clockStart_other other cycles,
    fun cycles clock starting ends => ?ended, fun p starting unstarted _ proving few left => ?going⟩
  case release =>
    exact (exec_startSequence v .high s).trans
      (congrArg Host.Outcome.next (if_pos ((releasable_iff v .high s).mpr ⟨held, kept, risen, rfl⟩)))
  case ended =>
    obtain ⟨ended, started⟩ := clockStartOver_of_ends ends
    obtain ⟨idlePort, heldPort, freeBus, busyBus⟩ := clockStart_ports s
    refine ⟨clockStart s, ?_, clockStart_frame started, idlePort, heldPort, freeBus, busyBus, fun empty => ?_⟩
    · rw [exec_clockStart starting, runClockStart_over cycles s ended]
    · rw [step_idle empty, idle_beforeClockStart starting, if_pos ended]
  case going =>
    have going : s.clockStartOver = false :=
      Bool.eq_false_iff.mpr fun ended => by
        have := (clockStartOver_some proving).mp ended
        omega
    refine ⟨?_, fun o rest => ⟨_, superviseCycle_startCycleCounted unstarted proving few o,
      fun t after => exec_clockStart_cons starting going after⟩, fun empty => ?_⟩
    · rw [exec_clockStart starting, runClockStart]
      exact congrArg Host.Outcome.next (if_neg (Bool.eq_false_iff.mp going))
    · refine ⟨s.nextOscillator, _, s.freeCount + 1, superviseCycle_startCycleCounted unstarted proving few _, ?_⟩
      rw [step_idle empty, idle_beforeClockStart starting, if_neg (Bool.eq_false_iff.mp going),
        superviseCycle_useFree unstarted proving]

end Sys2Proof.Machine
end

section
/-!
PROOF. A device reset: what it leaves, whatever its cause, and what becomes of the copy of a store (R168, R171, R175,
R177).
-/

namespace Sys2Proof.Machine

/-! ## A partial image -/

/-- A copy of a right checksum ends in it (R171, R180). -/
theorem drop_of_copyChecksumOk {copy : List Byte} (ok : copyChecksumOk copy = true) :
    copy.drop 30 = beBytes 2 (crc16 (copy.take 30)).toNat := by
  simp only [copyChecksumOk, Bool.and_eq_true, beq_iff_eq] at ok
  obtain ⟨length, sum⟩ := ok
  have two : (copy.drop 30).length = 2 := by rw [List.length_drop, length]
  have bytes := beBytes_toNat_ofNat (n := 16) (copy.drop 30) (by rw [two]; norm_num)
  rw [two] at bytes
  rw [sum, bytes]

/-- A copy of a right checksum loses it with its last byte. -/
theorem copyChecksumOk_last {front : List Byte} {b b' : Byte} (length : front.length = 31)
    (ok : copyChecksumOk (front ++ [b]) = true)
    (ok' : copyChecksumOk (front ++ [b']) = true) : b = b' := by
  have ends := drop_of_copyChecksumOk ok
  have ends' := drop_of_copyChecksumOk ok'
  rw [List.take_append_of_le_length (by omega), List.drop_append_of_le_length (by omega)] at ends ends'
  have same := List.append_cancel_left (ends.trans ends'.symm)
  exact List.singleton_inj.mp same

theorem flip_ne : ∀ b : Byte, b ^^^ 0x01#8 ≠ b := by decide

/-- A partial image is not good (R175). -/
theorem copyGood_partialImage (start : Nat) : copyGood (partialImage start) = false := by
  have bad : copyChecksumOk (partialImage start) = false := by
    rw [partialImage]
    by_cases ok : copyChecksumOk (freeBytes start 32) = true
    · rw [if_pos ok, Bool.eq_false_iff]
      intro still
      have length : (freeBytes start 32).length = 32 := by simp [freeBytes]
      have whole : (freeBytes start 32).dropLast ++ [(freeBytes start 32).getLastD 0] = freeBytes start 32 := by
        have filled : freeBytes start 32 ≠ [] := fun none => by simp [none] at length
        rw [List.getLastD_eq_getLast?, List.getLast?_eq_some_getLast filled, Option.getD_some,
          List.dropLast_concat_getLast]
      rw [← whole] at ok
      exact flip_ne _ (copyChecksumOk_last (by rw [List.length_dropLast, length]) still ok)
    · rw [if_neg ok]
      exact Bool.eq_false_iff.mpr ok
  rw [copyGood, bad, Bool.false_and, Bool.false_and]

/-! ## The reset -/

/-- What a reset of any cause leaves, the supply, RESETn and the two records of the cause apart (R171, R175, R177). -/
def ResetTo (s t : State) : Prop :=
  t = { State.reset with
        copyA := t.copyA, copyB := t.copyB, powerUpFlag := t.powerUpFlag, collapseLatch := t.collapseLatch,
        supplyUv := t.supplyUv, resetn := t.resetn, selA := s.selA, selB := s.selB,
        fourWire := .notReady (s.selA || s.selB), twoWire := t.twoWire, rawInputs := s.rawInputs,
        rawSync := s.rawSync, freeCount := t.freeCount, pending := s.pending }
  ∧ (∃ busy, t.twoWire = .notReady busy)
  ∧ (s.store = none → t.copyA = s.copyA ∧ t.copyB = s.copyB)
  ∧ ∀ job, s.store = some job →
      (job.target = .a → t.copyB = s.copyB
        ∧ (t.copyA = s.copyA ∨ t.copyA = copyBytes job.image job.generation ∨ copyGood t.copyA = false))
      ∧ (job.target = .b → t.copyA = s.copyA
        ∧ (t.copyB = s.copyB ∨ t.copyB = copyBytes job.image job.generation ∨ copyGood t.copyB = false))

theorem atReset_notReady (port : TwoWirePort) : ∃ busy, port.atReset = .notReady busy := by
  cases port <;> exact ⟨_, rfl⟩

/-- A reset during a write leaves the target copy as it was, whole, or not good, and the other copy (R175). -/
theorem abandonStore_copies {s : State} {job : StoreJob} (stored : s.store = some job) :
    (abandonStore s).copy job.target.other = s.copy job.target.other
    ∧ ((abandonStore s).copy job.target = s.copy job.target
      ∨ (abandonStore s).copy job.target = copyBytes job.image job.generation
      ∨ copyGood ((abandonStore s).copy job.target) = false) := by
  have written : ∀ bytes, ((s.setCopy job.target bytes).useFree 33).copy job.target.other = s.copy job.target.other
      ∧ ((s.setCopy job.target bytes).useFree 33).copy job.target = bytes := by
    intro bytes
    cases job.target <;> exact ⟨rfl, rfl⟩
  simp only [abandonStore, stored]
  split_ifs
  · exact ⟨(written _).1, .inl (written _).2⟩
  · exact ⟨(written _).1, .inr (.inl (written _).2)⟩
  · exact ⟨(written _).1, .inr (.inr ((congrArg copyGood (written _).2).trans (copyGood_partialImage _)))⟩

/-- A reset, whatever its cause makes of the supply, RESETn and the records. -/
theorem resetTo_deviceReset (s : State) (flag latch : Bool) (v : Nat) (pin : PinLevel) (free : Nat) :
    ResetTo s
      { deviceReset s with
        powerUpFlag := flag, collapseLatch := latch, supplyUv := v, resetn := pin, freeCount := free } := by
  refine ⟨rfl, atReset_notReady s.twoWire, fun none => ?_, fun job stored => ⟨fun target => ?_, fun target => ?_⟩⟩
  · have kept : abandonStore s = s := by simp only [abandonStore, none]
    have copyA : (abandonStore s).copyA = s.copyA := by rw [kept]
    have copyB : (abandonStore s).copyB = s.copyB := by rw [kept]
    exact ⟨copyA, copyB⟩
  · have copies := abandonStore_copies stored
    rw [target] at copies
    exact copies
  · have copies := abandonStore_copies stored
    rw [target] at copies
    exact copies

/-! ## The supply -/

theorem exec_powerReset {s : State} {v : Nat} (below : s.supplyUv < 1200000) (above : 1200000 ≤ v) :
    exec (.powerReset v) s
      = .next { deviceReset s with powerUpFlag := true, supplyUv := v } := by
  have up : powerUp v s = { deviceReset s with powerUpFlag := true } := if_pos ⟨below, above⟩
  have stays : collapse v { deviceReset s with powerUpFlag := true } = { deviceReset s with powerUpFlag := true } :=
    if_neg fun h => absurd (below.trans_le (show 1200000 ≤ 2400000 by decide)) (not_lt.mpr h.2)
  have keeps : loseRecords v { deviceReset s with powerUpFlag := true } = { deviceReset s with powerUpFlag := true } :=
    if_neg fun h => absurd below (not_lt.mpr h.2)
  refine congrArg Host.Outcome.next ((if_pos ⟨below, above⟩).trans ?_)
  rw [moveSupply, up, stays, keeps]

/-- Above 1.2 V no power reset comes (R168). -/
theorem powerUp_kept {s : State} (kept : 1200000 ≤ s.supplyUv) (v : Nat) : powerUp v s = s :=
  if_neg fun h => absurd h.1 (not_lt.mpr kept)

theorem exec_supplyCollapse {s : State} {v : Nat} (above : 2400000 ≤ s.supplyUv) (below : v < 2400000) :
    exec (.supplyCollapse v) s
      = .next { loseRecords v { deviceReset s with collapseLatch := true } with supplyUv := v } := by
  have falls : collapse v s = { deviceReset s with collapseLatch := true } := if_pos ⟨below, above⟩
  refine congrArg Host.Outcome.next ((if_pos ⟨below, above⟩).trans ?_)
  rw [moveSupply, powerUp_kept (by omega), falls]

theorem exec_supplyFallingBelow1V2 {s : State} {v : Nat} (kept : 1200000 ≤ s.supplyUv) (low : s.supplyUv < 2400000)
    (below : v < 1200000) :
    exec (.supplyFallingBelow1V2 v) s = .next { loseRecords v s with supplyUv := v } := by
  have stays : collapse v s = s := if_neg fun h => absurd low (not_lt.mpr h.2)
  refine congrArg Host.Outcome.next ((if_pos ⟨below, kept⟩).trans ?_)
  rw [moveSupply, powerUp_kept kept, stays]

theorem loseRecords_lost {s : State} {v : Nat} (kept : 1200000 ≤ s.supplyUv) (below : v < 1200000) :
    loseRecords v s
      = { s with
          collapseLatch := false, powerUpFlag := freeBool s.freeCount, freeCount := s.freeCount + 1 } :=
  if_pos ⟨below, kept⟩

theorem loseRecords_kept {s : State} {v : Nat} (above : 1200000 ≤ v) : loseRecords v s = s :=
  if_neg fun h => absurd h.1 (not_lt.mpr above)

/-- Settles O39: each cause by the levels, and what it leaves. -/
theorem resetCausesResetTheDevice : Obligations.ResetCausesResetTheDevice := by
  intro s v n
  refine ⟨fun below above => ⟨_, exec_powerReset below above, resetTo_deviceReset s .., rfl, rfl, rfl, rfl⟩,
    fun above below => ?collapse, fun kept low below => ?lose, fun long => ?pin, fun short => ?early⟩
  case collapse =>
    have falls := exec_supplyCollapse above below
    by_cases lost : v < 1200000
    · rw [loseRecords_lost (s := { deviceReset s with collapseLatch := true })
        ((show 1200000 ≤ 2400000 by decide).trans above) lost] at falls
      exact ⟨_, falls, resetTo_deviceReset s .., rfl, rfl, fun kept => absurd lost (not_lt.mpr kept), fun _ => rfl⟩
    · rw [loseRecords_kept (not_lt.mp lost)] at falls
      exact ⟨_, falls, resetTo_deviceReset s .., rfl, rfl, fun _ => ⟨rfl, rfl⟩, fun below => absurd below lost⟩
  case lose =>
    rw [exec_supplyFallingBelow1V2 kept low below, loseRecords_lost kept below]
    exact ⟨_, _, rfl⟩
  case pin =>
    exact ⟨pinReset s, congrArg Host.Outcome.next (if_pos long), resetTo_deviceReset s .., rfl, rfl, rfl, rfl⟩
  case early => exact congrArg Host.Outcome.next (if_neg (not_le.mpr short))

end Sys2Proof.Machine
end

section
/-!
PROOF. The tick and the cycles up to it: the counts, the hold filter, and the samples of the inputs and of SYNC (R1 to
R3, R9, R12, R27, R98, R99, R162 to R164).
-/

namespace Sys2Proof.Machine

/-! ## What a cycle does not look at -/

/-- A state under other pins and with other choices made free (log 7). -/
def State.apart (s : State) (pins : PinSample) (free : Nat) : State :=
  { s with rawInputs := pins.inputs, rawSync := pins.sync, freeCount := free }

theorem superviseCycle_apart {s : State} (clocked : s.clock ≠ none) (o : Oscillator) (pins : PinSample) (free : Nat) :
    superviseCycle o (s.apart pins free) = (superviseCycle o s).apart pins free := by
  obtain ⟨k, clock⟩ := Option.ne_none_iff_exists'.mp clocked
  cases o
  · cases k
    · simp only [superviseCycle, mainCycle, State.missingEdge, State.apart, clock]
      split_ifs <;> simp only [clock]
    · simp only [superviseCycle, mainCycle, State.apart, clock]
    · cases window : s.startWindow
      · simp only [superviseCycle, mainCycle, restartEdge, State.missingEdge, State.apart, clock, window]
        split_ifs <;> simp only [clock, window]
      · simp only [superviseCycle, mainCycle, restartEdge, State.apart, clock, window]
  · cases k
    · simp only [superviseCycle, backupCycle, countSilence, State.apart, clock]
    · simp only [superviseCycle, backupCycle, State.apart, clock]
    · cases window : s.startWindow
      · simp only [superviseCycle, backupCycle, countSilence, State.apart, clock, window]
      · simp only [superviseCycle, backupCycle, State.apart, clock, window]

/-! ## A cycle -/

theorem drives_iff (o : Oscillator) (s : State) : Drives o s ↔ s.tickSource = some o := by
  unfold Drives State.tickSource
  cases s.clock with
  | none => simp
  | some k => cases k <;> cases o <;> simp [ClockState.tickSource]

/-- With nothing due the clock supervisor has no event due. -/
theorem no_due_supervisor {s : State} (due : dueEvents s = []) :
    ¬s.failoverDue = true ∧ ¬s.restartProven = true ∧ ¬s.restartLost = true := by
  simp only [dueEvents, List.append_eq_nil_iff, ite_eq_right_iff, reduceCtorEq, imp_false] at due
  obtain ⟨⟨⟨⟨⟨⟨-, failover⟩, proven⟩, lost⟩, -⟩, -⟩, -⟩ := due
  exact ⟨failover, proven, lost⟩

/-- In MAIN with nothing due no edge is missing yet (R9). -/
theorem no_due_main {s : State} (due : dueEvents s = []) (main : s.clock = some .main) : s.missingCycles < 4 := by
  have failover := (no_due_supervisor due).1
  rw [failoverDue_iff] at failover
  exact not_le.mp fun missing => failover ⟨main, missing⟩

/-- In a restart after its first main edge, with nothing due, neither end has come (R9, R12). -/
theorem no_due_restarting {s : State} (due : dueEvents s = []) (restarting : s.clock = some .restarting)
    (watched : s.startWindow = none) : s.missingCycles < 4 ∧ s.restartProgress < 16384 := by
  obtain ⟨-, proven, lost⟩ := no_due_supervisor due
  rw [restartProven_iff] at proven
  rw [restartLost_iff] at lost
  exact ⟨not_le.mp fun missing => lost ⟨restarting, watched, missing⟩,
    not_le.mp fun done => proven ⟨restarting, watched, done⟩⟩

theorem not_missingEdge {s : State} (few : s.missingCycles < 4) : ¬s.missingEdge = true :=
  fun missing => absurd ((missingEdge_iff s).mp missing) (not_le.mpr few)

/-- A cycle of a clock state is counted as R9 and R12 give it. -/
theorem superviseCycle_cycleCounted {s : State} (due : dueEvents s = []) (o : Oscillator) :
    CycleCounted o s (superviseCycle o s) := by
  refine ⟨?mainEdge, ?firstEdge, ?goodCycle, ?silence, ?window, ?stopped⟩
  case mainEdge =>
    rintro rfl main
    simp only [superviseCycle, mainCycle, main, if_neg (not_missingEdge (no_due_main due main))]
  case firstEdge =>
    rintro rfl restarting window
    obtain ⟨left, window⟩ := Option.ne_none_iff_exists'.mp window
    simp only [superviseCycle, mainCycle, restarting, restartEdge, window, and_self]
  case goodCycle =>
    rintro rfl restarting watched
    obtain ⟨few, more⟩ := no_due_restarting due restarting watched
    have room : min (s.restartProgress + 1) Config.provingRun = s.restartProgress + 1 := Nat.min_eq_left more
    simp only [superviseCycle, mainCycle, restarting, restartEdge, watched, if_neg (not_missingEdge few), room, and_self]
  case silence =>
    rintro rfl clock watched
    have few : s.missingCycles < 4 := clock.elim (no_due_main due) fun r => (no_due_restarting due r watched).1
    have room : min (s.missingCycles + 1) Config.missingEdgeCycles = s.missingCycles + 1 := Nat.min_eq_left few
    rcases clock with main | restarting
    · simp only [superviseCycle, backupCycle, main, countSilence, watched, room, and_self]
    · simp only [superviseCycle, backupCycle, restarting, countSilence, watched, room, and_self]
  case window =>
    rintro left rfl restarting window
    simp only [superviseCycle, backupCycle, restarting, window, and_self]
  case stopped =>
    rintro rfl backup
    simp only [superviseCycle, backupCycle, backup, and_self]

theorem superviseCycle_proving {s : State} (clocked : s.clock ≠ none) (o : Oscillator) :
    (superviseCycle o s).proving = s.proving := by
  obtain ⟨k, clock⟩ := Option.ne_none_iff_exists'.mp clocked
  cases o
  · cases k <;> simp only [superviseCycle, mainCycle, restartEdge, clock]
    · split_ifs <;> rfl
    · repeat' split
      all_goals rfl
  · cases k <;> simp only [superviseCycle, backupCycle, countSilence, clock]
    split <;> rfl

/-- A cycle of a device that has a clock state touches three counts only. -/
theorem superviseCycle_three {s : State} (clocked : s.clock ≠ none) (o : Oscillator) :
    ∃ missing window progress, superviseCycle o s
      = { s with missingCycles := missing, startWindow := window, restartProgress := progress } := by
  obtain ⟨missing, window, progress, proving, counts⟩ := superviseCycle_counts o s
  obtain rfl : proving = s.proving := by rw [← superviseCycle_proving clocked o, counts]
  exact ⟨missing, window, progress, counts⟩

theorem drives_clocked {o : Oscillator} {s : State} (drives : Drives o s) : s.clock ≠ none := by
  rcases drives with ⟨-, main⟩ | ⟨-, backup | restarting⟩
  · simp [main]
  · simp [backup]
  · simp [restarting]

theorem drives_runs {o : Oscillator} {s : State} (drives : Drives o s) (main : o = .main) : s.mainRunning = true := by
  rcases drives with ⟨-, clock⟩ | ⟨rfl, -⟩
  · simp [State.mainRunning, clock, ClockState.mainRunning]
  · cases main

/-! ## The cycle with the tick -/

/-- The state after a cycle that issues the tick, under the pins at it (R1, R2). -/
def ticked (o : Oscillator) (pins : PinSample) (free : Nat) (s : State) : State :=
  tickCore ((superviseCycle o s).apart pins free)

theorem oscillatorCycle_ticked {o : Oscillator} {s : State} (drives : Drives o s) (last : s.divider = 7)
    (pins : PinSample) (free : Nat) : oscillatorCycle o (s.apart pins free) = ticked o pins free s := by
  rw [oscillatorCycle_tick o (s.apart pins free) ((drives_iff o s).mp drives) last,
    superviseCycle_apart (drives_clocked drives), ticked]

section
variable {o : Oscillator} {s : State}

theorem ticked_counts (clocked : s.clock ≠ none) (pins : PinSample) (free : Nat) :
    (ticked o pins free s).timebase = s.timebase + 1 ∧ (ticked o pins free s).run = s.run + 1
      ∧ (ticked o pins free s).divider = 0 := by
  obtain ⟨_, _, _, counts⟩ := superviseCycle_three clocked o
  rw [ticked, counts]
  exact ⟨rfl, rfl, rfl⟩

/-- All that a tick touches (R1 to R3, R162). -/
theorem ticked_frame (clocked : s.clock ≠ none) (pins : PinSample) (free : Nat) :
    ticked o pins free s
      = { s with
          timebase := (ticked o pins free s).timebase, run := (ticked o pins free s).run,
          divider := (ticked o pins free s).divider, missingCycles := (ticked o pins free s).missingCycles,
          startWindow := (ticked o pins free s).startWindow,
          restartProgress := (ticked o pins free s).restartProgress, sampled := true,
          inputs := (ticked o pins free s).inputs, sync := (ticked o pins free s).sync, rawInputs := pins.inputs,
          rawSync := pins.sync, holdFilter := (ticked o pins free s).holdFilter, freeCount := free } := by
  obtain ⟨_, _, _, counts⟩ := superviseCycle_three clocked o
  rw [ticked, counts]
  rfl

theorem ticked_holdFilter (clocked : s.clock ≠ none) (pins : PinSample) (free : Nat) :
    (ticked o pins free s).holdFilter
      = if s.supplyAcross = true then some (s.holdFilter.getD (s.run + 1)) else none := by
  obtain ⟨_, _, _, counts⟩ := superviseCycle_three clocked o
  rw [ticked, counts]
  rfl

theorem ticked_cycleCounted (due : dueEvents s = []) (pins : PinSample) (free : Nat) :
    CycleCounted o s (ticked o pins free s) := by
  have counted := superviseCycle_cycleCounted due o
  exact ⟨counted.mainEdge, counted.firstEdge, counted.goodCycle, counted.silence, counted.window, counted.stopped⟩

/-- With nothing due, one cycle with the divider at 7 is a tick (R1, R2). -/
theorem exec_tick_ticked (running : s.phase = .running) (due : dueEvents s = []) (last : s.divider = 7)
    (drives : Drives o s) (pins : PinSample) :
    exec (.tick [o] pins) s = .next (ticked o pins s.freeCount s) := by
  have cycle : passCycles [o] (s.apart pins s.freeCount) = ticked o pins s.freeCount s := by
    rw [passCycles_cons, passCycle_of_no_due (s.apart pins s.freeCount) o running due (drives_runs drives),
      oscillatorCycle_ticked drives last]
    rfl
  refine congrArg Host.Outcome.next ((if_pos ⟨running, by simp, ?_⟩).trans cycle)
  exact (congrArg State.run cycle).trans (ticked_counts (drives_clocked drives) pins s.freeCount).2.1

end

/-! ## The samples -/

theorem sampledInput_first {s : State} (first : s.sampled = false) (level : PinLevel) (r : Input) :
    sampledInput level r s = { r with level := level } := if_neg (by simp [first])

theorem sampledInput_courses {s : State} (later : s.sampled = true) (level : PinLevel) (r : Input) :
    (level = r.level → sampledInput level r s = { r with pending := none })
    ∧ (level ≠ r.level → r.pending = none → sampledInput level r s = { r with pending := some (latchNow s) })
    ∧ (level ≠ r.level → r.pending ≠ none → sampledInput level r s = r) := by
  rw [sampledInput, if_pos later]
  refine ⟨fun same => if_pos same, fun other idle => (if_neg other).trans ?_, fun other runs => (if_neg other).trans ?_⟩
  · rw [idle]
    rfl
  · obtain ⟨latch, runs⟩ := Option.ne_none_iff_exists'.mp runs
    have kept : some (r.pending.getD (latchNow s)) = r.pending := by rw [runs]; rfl
    rw [kept]

theorem sampledSync_first {s : State} (first : s.sampled = false) (level : PinLevel) :
    sampledSync level s = { s.sync with level := level } := if_neg (by simp [first])

theorem sampledSync_courses {s : State} (later : s.sampled = true) (level : PinLevel) :
    (level = s.sync.level → sampledSync level s = { s.sync with pending := none })
    ∧ (level ≠ s.sync.level → s.sync.pending = none → sampledSync level s = { s.sync with pending := some s.run })
    ∧ (level ≠ s.sync.level → s.sync.pending ≠ none → sampledSync level s = s.sync) := by
  rw [sampledSync, if_pos later]
  refine ⟨fun same => if_pos same, fun other idle => (if_neg other).trans ?_, fun other runs => (if_neg other).trans ?_⟩
  · rw [idle]
    rfl
  · obtain ⟨latched, runs⟩ := Option.ne_none_iff_exists'.mp runs
    have kept : some (s.sync.pending.getD s.run) = s.sync.pending := by rw [runs]; rfl
    rw [kept]

/-- The state that the samples of a tick look at (R2, R99). -/
def sampling (s : State) : State := { s with timebase := s.timebase + 1, run := s.run + 1 }

/-- A tick samples each input, and SYNC (R27, R98, R99). -/
theorem ticked_samples {o : Oscillator} {s : State} (clocked : s.clock ≠ none) (pins : PinSample) (free : Nat) :
    (∀ i : InputId, (ticked o pins free s).input i = sampledInput pins.inputs[i.val] (s.input i) (sampling s))
    ∧ (ticked o pins free s).sync = sampledSync pins.sync (sampling s) := by
  obtain ⟨_, _, _, counts⟩ := superviseCycle_three clocked o
  rw [ticked, counts]
  refine ⟨fun i => ?_, rfl⟩
  simp only [tickCore, superviseSupply, sampleAll, State.input, getElem_tabulate]
  rfl

/-- Settles O4: the tick samples under the pins at it, and each sample takes its course. -/
theorem tickSamplesTheInputs : Obligations.TickSamplesTheInputs := by
  intro o ins sync s running due last drives
  obtain ⟨inputs, syncs⟩ := ticked_samples (o := o) (drives_clocked drives) { inputs := ins, sync := sync } s.freeCount
  refine ⟨_, exec_tick_ticked running due last drives _, rfl, fun first => ⟨fun i => ?_, ?_⟩, fun later i => ?_,
    fun later => ?_⟩
  · rw [inputs i, sampledInput_first (s := sampling s) first]
  · rw [syncs, sampledSync_first (s := sampling s) first]
    rfl
  · rw [inputs i]
    exact sampledInput_courses (s := sampling s) later ins[i.val] (s.input i)
  · rw [syncs]
    exact sampledSync_courses (s := sampling s) later sync

/-! ## A cycle without a tick -/

section
variable {o : Oscillator} {s : State}

/-- What a cycle without a tick does to the divider (R1). -/
theorem oscillatorCycle_divider (early : ¬(Drives o s ∧ s.divider = 7)) :
    ∃ divider, oscillatorCycle o s = { superviseCycle o s with divider := divider }
      ∧ (Drives o s → divider = s.divider + 1) ∧ (¬Drives o s → divider = s.divider) := by
  by_cases drives : Drives o s
  · refine ⟨s.divider + 1, ?_, fun _ => rfl, fun other => absurd drives other⟩
    exact oscillatorCycle_count o s ((drives_iff o s).mp drives) fun last => early ⟨drives, last⟩
  · refine ⟨s.divider, ?_, fun d => absurd d drives, fun _ => rfl⟩
    obtain ⟨_, _, _, _, counts⟩ := superviseCycle_counts o s
    rw [oscillatorCycle_other o s (mt (drives_iff o s).mpr drives), counts]

/-- All that a cycle without a tick touches (R1, R9, R12). -/
theorem oscillatorCycle_frame (clocked : s.clock ≠ none) (early : ¬(Drives o s ∧ s.divider = 7)) :
    oscillatorCycle o s
      = { s with
          divider := (oscillatorCycle o s).divider, missingCycles := (oscillatorCycle o s).missingCycles,
          startWindow := (oscillatorCycle o s).startWindow,
          restartProgress := (oscillatorCycle o s).restartProgress } := by
  obtain ⟨_, cycle, -⟩ := oscillatorCycle_divider early
  obtain ⟨_, _, _, counts⟩ := superviseCycle_three clocked o
  rw [cycle, counts]

theorem oscillatorCycle_cycleCounted (due : dueEvents s = []) (early : ¬(Drives o s ∧ s.divider = 7)) :
    CycleCounted o s (oscillatorCycle o s) := by
  obtain ⟨_, cycle, -⟩ := oscillatorCycle_divider early
  have counted := superviseCycle_cycleCounted due o
  rw [cycle]
  exact ⟨counted.mainEdge, counted.firstEdge, counted.goodCycle, counted.silence, counted.window, counted.stopped⟩

theorem oscillatorCycle_dividerRises (early : ¬(Drives o s ∧ s.divider = 7)) :
    (Drives o s → (oscillatorCycle o s).divider = s.divider + 1)
    ∧ (¬Drives o s → (oscillatorCycle o s).divider = s.divider) := by
  obtain ⟨_, cycle, rises⟩ := oscillatorCycle_divider early
  rw [cycle]
  exact rises

/-- Without a tick a cycle looks at neither the pins nor the choices left free. -/
theorem oscillatorCycle_apart (clocked : s.clock ≠ none) (early : ¬(Drives o s ∧ s.divider = 7)) (pins : PinSample)
    (free : Nat) : oscillatorCycle o (s.apart pins free) = (oscillatorCycle o s).apart pins free := by
  by_cases drives : Drives o s
  · have source := (drives_iff o s).mp drives
    have before : s.divider ≠ 7 := fun last => early ⟨drives, last⟩
    rw [oscillatorCycle_count o (s.apart pins free) source before, oscillatorCycle_count o s source before,
      superviseCycle_apart clocked]
    rfl
  · have other := mt (drives_iff o s).mpr drives
    rw [oscillatorCycle_other o (s.apart pins free) other, oscillatorCycle_other o s other, superviseCycle_apart clocked]

/-- A cycle without a tick, and then the cycles of a tick, are a tick (log 8). -/
theorem exec_tick_cons {rest : List Oscillator} {pins : PinSample} {t : State} (running : s.phase = .running)
    (due : dueEvents s = []) (short : rest.length + 1 < 2 ^ 48) (clocked : s.clock ≠ none)
    (runs : o = .main → s.mainRunning = true) (early : ¬(Drives o s ∧ s.divider = 7))
    (after : exec (.tick rest pins) (oscillatorCycle o s) = .next t) (run : t.run = s.run + 1) :
    exec (.tick (o :: rest) pins) s = .next t := by
  have frame := oscillatorCycle_frame clocked early
  have sameRun : (oscillatorCycle o s).run = s.run := (congrArg State.run frame).trans rfl
  have passed : passCycles (o :: rest) (s.apart pins s.freeCount)
      = passCycles rest ((oscillatorCycle o s).apart pins (oscillatorCycle o s).freeCount) := by
    rw [passCycles_cons, passCycle_of_no_due (s.apart pins s.freeCount) o running due runs,
      oscillatorCycle_apart clocked early, (congrArg State.freeCount frame).trans rfl]
  have ticks : tick rest pins (oscillatorCycle o s) = t := Host.Outcome.next.inj after
  have stretch : t = passCycles rest ((oscillatorCycle o s).apart pins (oscillatorCycle o s).freeCount) := by
    rcases tick_cases rest pins (oscillatorCycle o s) with none | passes
    · rw [← ticks, none, sameRun] at run
      exact absurd run (by bv_omega)
    · exact ticks.symm.trans passes
  rw [stretch, ← passed] at run ⊢
  exact congrArg Host.Outcome.next (if_pos ⟨running, by rw [List.length_cons]; exact short, run⟩)

end

/-! ## The cycle that passes by itself -/

/-- With no command queued and nothing due, one cycle of the next oscillator passes (log 3). -/
theorem idle_running {s : State} (running : s.phase = .running) (due : dueEvents s = []) :
    idle s = oscillatorCycle s.nextOscillator
      (s.apart { inputs := s.rawInputs, sync := s.rawSync } (s.freeCount + 1)) := by
  rw [idle, running]
  show oscillatorCycle (settle s).nextOscillator ((settle s).useFree 1) = _
  rw [settle_of_no_due s running due]
  rfl

theorem idle_in_reset {s : State} (reset : s.phase = .heldInReset ∨ s.phase = .beforeOptionLoad) : idle s = s := by
  rcases reset with held | loading
  · rw [idle, held]
  · rw [idle, loading]

theorem nextOscillator_main {s : State} (clocked : s.clock ≠ none) (main : s.nextOscillator = .main) :
    s.clock = some .main ∨ s.clock = some .restarting := by
  obtain ⟨k, clock⟩ := Option.ne_none_iff_exists'.mp clocked
  cases k with
  | main => exact .inl clock
  | restarting => exact .inr clock
  | backup => simp [State.nextOscillator, State.mainRunning, clock, ClockState.mainRunning] at main

theorem mainRunning_of_clock {s : State} (clock : s.clock = some .main ∨ s.clock = some .restarting) :
    s.mainRunning = true := by
  rcases clock with clock | clock <;> simp [State.mainRunning, clock, ClockState.mainRunning]

/-- Settles O3: a cycle is the one that ticks, or one that is counted and passes on. -/
theorem tickRaisesBothCounts : Obligations.TickRaisesBothCounts := by
  refine ⟨?tick, ?cycle, ?none, ?stopped, ?idle, ?reset⟩
  case tick =>
    intro o pins s running due last drives
    have clocked := drives_clocked drives
    obtain ⟨timebase, run, divider⟩ := ticked_counts (o := o) clocked pins s.freeCount
    refine ⟨_, exec_tick_ticked running due last drives pins, timebase, run, divider, fun full => ?_,
      ticked_cycleCounted due pins s.freeCount, ticked_frame clocked pins s.freeCount,
      fun threshold level mem chosen => ?_⟩
    · rw [timebase, full]
      rfl
    · have across := supplyAcross_iff s
      rw [chosen, microvolts_of_mem mem] at across
      rw [ticked_holdFilter clocked]
      exact ⟨fun holds => if_pos (across.mpr holds), fun holds => if_neg (mt across.mp holds)⟩
  case cycle =>
    intro o rest pins s running due short clocked runs early
    obtain ⟨rises, stays⟩ := oscillatorCycle_dividerRises early
    exact ⟨_, oscillatorCycle_cycleCounted due early, oscillatorCycle_frame clocked early, rises, stays,
      fun t after run => exec_tick_cons running due short clocked (fun main => mainRunning_of_clock (runs main)) early
        after run⟩
  case none =>
    intro pins s
    refine congrArg Host.Outcome.next (if_neg fun h => ?_)
    have same : s.run = s.run + 1 := h.2.2
    exact absurd same (by bv_omega)
  case stopped =>
    intro cycles pins s stopped
    exact congrArg Host.Outcome.next (if_neg fun h => stopped h.1)
  case idle =>
    intro s empty running due clocked
    have passes := idle_running running due
    refine ⟨s.nextOscillator, _, step_idle empty, nextOscillator_main clocked, ?_⟩
    by_cases ticks : Drives s.nextOscillator s ∧ s.divider = 7
    · obtain ⟨drives, last⟩ := ticks
      rw [passes, oscillatorCycle_ticked drives last]
      obtain ⟨timebase, run, divider⟩ := ticked_counts (o := s.nextOscillator) clocked
        { inputs := s.rawInputs, sync := s.rawSync } (s.freeCount + 1)
      exact ⟨ticked_cycleCounted due _ _, fun _ _ => ⟨divider, timebase, run⟩,
        fun other => absurd ⟨drives, last⟩ other⟩
    · rw [passes, oscillatorCycle_apart clocked ticks]
      have counted := oscillatorCycle_cycleCounted due ticks
      refine ⟨⟨counted.mainEdge, counted.firstEdge, counted.goodCycle, counted.silence, counted.window,
        counted.stopped⟩, fun drives last => absurd ⟨drives, last⟩ ticks, fun _ => ⟨?_,
        oscillatorCycle_dividerRises ticks⟩⟩
      exact congrArg (fun u : State =>
        u.apart { inputs := s.rawInputs, sync := s.rawSync } (s.freeCount + 1)) (oscillatorCycle_frame clocked ticks)
  case reset =>
    intro s empty reset
    rw [step_idle empty, idle_in_reset reset]

end Sys2Proof.Machine
end

section
/-!
PROOF. The common checks: an unknown kind, a client that is not OPEN, parameters that no valid request of the kind has,
and a row that is not the request's (R25, R56, R61, R114, R137 to R139, R146, R173).
-/

namespace Sys2Proof.Machine

/-! ## What parameters are read back as -/

theorem maskOfCode_eq_some_iff (b : Byte) (m : AttentionMask) : maskOfCode b = some m ↔ b = maskCode m := by
  revert b
  cases m <;> decide

theorem yesNoOfCode_eq_some_iff (b : Byte) (v : Bool) : yesNoOfCode b = some v ↔ b = flagCode v := by
  revert b
  cases v <;> decide

theorem edgeChoiceOfCode_eq_some_iff (b : Byte) (e : EdgeChoice) :
    edgeChoiceOfCode b = some e ↔ b = edgeChoiceCode e := by
  revert b
  cases e <;> decide

theorem inputOfCode_eq_some_iff (b : Byte) (i : InputId) : inputOfCode b = some i ↔ b = byteOf i.val := by
  revert b i
  decide

theorem parseMask_some {ps : List Byte} {m : AttentionMask} (read : parseMask ps = some m) : ps = [maskCode m] := by
  unfold parseMask at read
  split at read
  next b => rw [(maskOfCode_eq_some_iff b m).mp read]
  next => cases read

theorem parseAcquire_some {ps : List Byte} {l : LineId} {park : Level} {wait : Bool}
    (read : parseAcquire ps = some (l, park, wait)) : ps = [byteOf l.val, levelCode park, flagCode wait] := by
  unfold parseAcquire at read
  split at read
  next lb pb wb =>
    split at read
    next line level choice =>
      cases read
      rw [(lineOfCode_eq_some_iff lb l).mp line, (levelOfCode_eq_some_iff pb park).mp level,
        (yesNoOfCode_eq_some_iff wb wait).mp choice]
    next => cases read
  next => cases read

theorem parseSubscribe_some {ps : List Byte} {i : InputId} {choice : EdgeChoice}
    (read : parseSubscribe ps = some (i, choice)) : ps = [byteOf i.val, edgeChoiceCode choice] := by
  unfold parseSubscribe at read
  split at read
  next ib eb =>
    split at read
    next input edges =>
      cases read
      rw [(inputOfCode_eq_some_iff ib i).mp input, (edgeChoiceOfCode_eq_some_iff eb choice).mp edges]
    next => cases read
  next => cases read

theorem parseInput_some {ps : List Byte} {i : InputId} (read : parseInput ps = some i) : ps = [byteOf i.val] := by
  unfold parseInput at read
  split at read
  next b => rw [(inputOfCode_eq_some_iff b i).mp read]
  next => cases read

theorem parseOpen_length {ps : List Byte} {p : Nat × AttentionMask} (read : parseOpen ps = some p) : ps.length = 3 := by
  unfold parseOpen at read
  split at read
  next => rfl
  next => cases read

theorem parseHandle_length {ps : List Byte} {h : Handle} (read : parseHandle ps = some h) : ps.length = 2 := by
  unfold parseHandle at read
  split at read
  next => rfl
  next => cases read

theorem parseSetTime_length {ps : List Byte} {v : Count} (read : parseSetTime ps = some v) : ps.length = 6 := by
  unfold parseSetTime at read
  split at read
  next six => exact six
  next => cases read

theorem shiftDirectionOfCode_eq_some {b : Byte} {d : StepDirection} (named : shiftDirectionOfCode b = some d) :
    b = directionCode d ∧ (d = .forward ∨ d = .backward) := by
  revert b d
  decide

theorem parseShift_some {ps : List Byte} {d : StepDirection} {m : BitVec 32} (read : parseShift ps = some (d, m)) :
    m ≠ 0 ∧ (d = .forward ∨ d = .backward) ∧ ps = [directionCode d] ++ beBytes 4 m.toNat := by
  unfold parseShift at read
  split at read
  next db m3 m2 m1 m0 =>
    have bytes := beBytes_toNat_ofNat (n := 32) [m3, m2, m1, m0] (by norm_num)
    have number := toNat_ofNat_beNat (n := 32) [m3, m2, m1, m0] (by norm_num)
    dsimp only at read
    split at read
    next => cases read
    next nonzero =>
      obtain ⟨direction, named, pair⟩ := Option.map_eq_some_iff.mp read
      cases pair
      obtain ⟨code, steps⟩ := shiftDirectionOfCode_eq_some named
      refine ⟨fun zero => nonzero ?_, steps, ?_⟩
      · rw [← number, zero]
        rfl
      · rw [code]
        exact congrArg (directionCode d :: ·) bytes.symm
  next => cases read

theorem parseArm_some {ps : List Byte} {load : ArmedLoad} (read : parseArm ps = some load) :
    ps = beBytes 6 load.value.toNat ++ [edgeKindCode load.edge] := by
  unfold parseArm at read
  split at read
  next v5 v4 v3 v2 v1 v0 eb =>
    obtain ⟨edge, named, rfl⟩ := Option.map_eq_some_iff.mp read
    have bytes := beBytes_toNat_ofNat (n := 48) [v5, v4, v3, v2, v1, v0] (by norm_num)
    rw [(edgeKindOfCode_eq_some_iff eb edge).mp named]
    exact congrArg (· ++ [edgeKindCode edge]) bytes.symm
  next => cases read

theorem parseStoreImage_some {ps image : List Byte} (read : parseStoreImage ps = some image) :
    ∃ o, FieldsInRange o ∧ addressesValid o.address2 o.address3 = true ∧ ps = imageBytes o := by
  unfold parseStoreImage at read
  split at read
  next o parsed =>
    split at read
    next valid => exact ⟨o, (parseImage_some parsed).1, valid, (parseImage_some parsed).2⟩
    next => cases read
  next => cases read

theorem none_of_read {α : Type} {parsed : Option α} (reads : ∀ a, parsed = some a → False) : parsed = none :=
  Option.eq_none_iff_forall_ne_some.mpr fun a read => reads a read

/-! ## Rows that the request held is not of -/

theorem Runs.other_kind {i : Instr} {kind : Byte} {f : Request} (row : Runs i kind f) {s : State} {j : EngineJob}
    (held : s.engine = some j) (other : j.frame.kind ≠ kind) : exec i s = .next s := by
  have idle : holdsRequest (fun k => k == kind) s = none := by
    simp only [holdsRequest, held, beq_eq_false_iff_ne.mpr other, Bool.false_and]
    rfl
  rw [row, runRequest_idle _ _ _ idle]

theorem Runs.no_request {i : Instr} {kind : Byte} {f : Request} (row : Runs i kind f) {s : State}
    (free : s.engine = none) : exec i s = .next s := by
  have idle : holdsRequest (fun k => k == kind) s = none := by simp only [holdsRequest, free]
  rw [row, runRequest_idle _ _ _ idle]

/-! ## The common checks of a row -/

/-- The row of a request that checks for OPEN first (R137, R139). -/
def ChecksOpen (i : Instr) (kind : Byte) : Prop :=
  ∀ (s : State) (j : EngineJob) (ps : List Byte),
    (Executing s j kind ps → s.isOpen j.client = false →
      exec i s = .next (s.replied j .notOpen (if i = .batch then [0x00] else [])))
    ∧ (s.engine = some j → j.frame.kind ≠ kind → exec i s = .next s)
    ∧ (s.engine = none → exec i s = .next s)

theorem Runs.checksOpen {i : Instr} {kind : Byte} {f : Request} (row : Runs i kind f)
    (closed : ∀ c ps s, s.isOpen c = false → f c ps s = (s, .notOpen, if i = .batch then [0x00] else [])) :
    ChecksOpen i kind := fun _ _ _ =>
  ⟨fun held notOpen => row.answers held (closed _ _ _ notOpen), row.other_kind, row.no_request⟩

/-- A request that reads its parameters after the check for OPEN refuses those it cannot read (R137). -/
theorem invalid_of_reads {α : Type} {f : Request} {c : ClientId} {ps : List Byte} {s : State} {parsed : Option α}
    (reads : ∃ k, f c ps s = whenOpen c s (withParams parsed s k)) (opened : s.isOpen c = true)
    (unparsed : parsed = none) : f c ps s = (s, .invalid, []) := by
  obtain ⟨k, reads⟩ := reads
  rw [reads, whenOpen_withParams_none opened unparsed]

/-- The row of a request without parameters (R137). -/
def TakesNone (i : Instr) (kind : Byte) : Prop :=
  ∀ (s : State) (j : EngineJob) (ps : List Byte), Executing s j kind ps → s.isOpen j.client = true → ps ≠ [] →
    exec i s = .next (s.replied j .invalid [])

theorem Runs.takesNone {i : Instr} {kind : Byte} {f : Request} (row : Runs i kind f)
    (reads : ∀ c ps s, ∃ k, f c ps s = whenOpen c s (withParams (parseNone ps) s k)) : TakesNone i kind :=
  fun _ _ _ held opened filled =>
    row.answers held (invalid_of_reads (reads _ _ _) opened (parseNone_of_ne_nil filled))

/-- The row of a request that takes a line (R137). -/
def TakesLine (i : Instr) (kind : Byte) : Prop :=
  ∀ (s : State) (j : EngineJob) (ps : List Byte), Executing s j kind ps → s.isOpen j.client = true →
    (∀ l : LineId, ps ≠ [byteOf l.val]) → exec i s = .next (s.replied j .invalid [])

theorem Runs.takesLine {i : Instr} {kind : Byte} {f : Request} (row : Runs i kind f)
    (reads : ∀ c ps s, ∃ k, f c ps s = whenOpen c s (withParams (parseLine ps) s k)) :
    TakesLine i kind :=
  fun _ _ _ held opened other => row.answers held (invalid_of_reads (reads _ _ _) opened (parseLine_none other))

/-- The row of a request that takes a handle (R137). -/
def TakesHandle (i : Instr) (kind : Byte) : Prop :=
  ∀ (s : State) (j : EngineJob) (ps : List Byte), Executing s j kind ps → s.isOpen j.client = true →
    ps.length ≠ 2 → exec i s = .next (s.replied j .invalid [])

theorem Runs.takesHandle {i : Instr} {kind : Byte} {f : Request} (row : Runs i kind f)
    (reads : ∀ c ps s, ∃ k, f c ps s = whenOpen c s (withParams (parseHandle ps) s k)) :
    TakesHandle i kind :=
  fun _ _ _ held opened other =>
    row.answers held
      (invalid_of_reads (reads _ _ _) opened (none_of_read fun _ read => other (parseHandle_length read)))

/-- The rows of the kinds other than OPEN and INFO (12.2). -/
def openRows : List (Instr × Byte) :=
  [(.closeSession, 0x11), (.heartbeat, 0x12), (.setAttention, 0x13), (.acquire, 0x20), (.release, 0x21),
    (.leaveQueue, 0x22), (.drive, 0x23), (.lineStatus, 0x24), (.schedule, 0x30), (.batch, 0x31), (.cancel, 0x32),
    (.cancelLine, 0x33), (.queryEntry, 0x34), (.listEntries, 0x35), (.subscribe, 0x40), (.unsubscribe, 0x41),
    (.takeCaptures, 0x42), (.takeNotices, 0x48), (.readTime, 0x50), (.claimAuthority, 0x51),
    (.yieldAuthority, 0x52), (.setTime, 0x53), (.shift, 0x54), (.armSync, 0x55), (.disarmSync, 0x56),
    (.restoreClock, 0x57), (.readOptions, 0x60), (.storeOptions, 0x61)]

/-- Each of these requests begins with the check for OPEN (R137). -/
theorem openRows_checksOpen : ∀ row ∈ openRows, ChecksOpen row.1 row.2 := by
  have checks : ∀ {i kind} (f : Request), Runs i kind f → i ≠ .batch →
      (∀ c ps s, ∃ k, f c ps s = whenOpen c s k) → ChecksOpen i kind := by
    intro i kind f row other first
    refine row.checksOpen fun c ps s closed => ?_
    obtain ⟨k, begins⟩ := first c ps s
    rw [begins, whenOpen_notOpen closed, if_neg other]
  have batch : ChecksOpen .batch 0x31 :=
    Runs.checksOpen (f := requestBatch) (fun _ => rfl) fun _ _ _ closed => requestBatch_notOpen closed
  simp only [openRows, List.forall_mem_cons, List.not_mem_nil, false_imp_iff, implies_true, and_true]
  refine ⟨checks requestClose (fun _ => rfl) (by simp) fun _ _ _ => ⟨_, rfl⟩,
    checks requestHeartbeat (fun _ => rfl) (by simp) fun _ _ _ => ⟨_, rfl⟩,
    checks requestSetAttention (fun _ => rfl) (by simp) fun _ _ _ => ⟨_, rfl⟩,
    checks requestAcquire (fun _ => rfl) (by simp) fun _ _ _ => ⟨_, rfl⟩,
    checks requestRelease (fun _ => rfl) (by simp) fun _ _ _ => ⟨_, rfl⟩,
    checks requestLeaveQueue (fun _ => rfl) (by simp) fun _ _ _ => ⟨_, rfl⟩,
    checks requestDrive (fun _ => rfl) (by simp) fun _ _ _ => ⟨_, rfl⟩,
    checks requestLineStatus (fun _ => rfl) (by simp) fun _ _ _ => ⟨_, rfl⟩,
    checks requestSchedule (fun _ => rfl) (by simp) fun _ _ _ => ⟨_, rfl⟩,
    batch,
    checks requestCancel (fun _ => rfl) (by simp) fun _ _ _ => ⟨_, rfl⟩,
    checks requestCancelLine (fun _ => rfl) (by simp) fun _ _ _ => ⟨_, rfl⟩,
    checks requestQueryEntry (fun _ => rfl) (by simp) fun _ _ _ => ⟨_, rfl⟩,
    checks requestListEntries (fun _ => rfl) (by simp) fun _ _ _ => ⟨_, rfl⟩,
    checks requestSubscribe (fun _ => rfl) (by simp) fun _ _ _ => ⟨_, rfl⟩,
    checks requestUnsubscribe (fun _ => rfl) (by simp) fun _ _ _ => ⟨_, rfl⟩,
    checks requestTakeCaptures (fun _ => rfl) (by simp) fun _ _ _ => ⟨_, rfl⟩,
    checks requestTakeNotices (fun _ => rfl) (by simp) fun _ _ _ => ⟨_, rfl⟩,
    checks requestReadTime (fun _ => rfl) (by simp) fun _ _ _ => ⟨_, rfl⟩,
    checks requestClaimAuthority (fun _ => rfl) (by simp) fun _ _ _ => ⟨_, rfl⟩,
    checks requestYieldAuthority (fun _ => rfl) (by simp) fun _ _ _ => ⟨_, rfl⟩,
    checks requestSetTime (fun _ => rfl) (by simp) fun _ _ _ => ⟨_, rfl⟩,
    checks requestShift (fun _ => rfl) (by simp) fun _ _ _ => ⟨_, rfl⟩,
    checks requestArmSync (fun _ => rfl) (by simp) fun _ _ _ => ⟨_, rfl⟩,
    checks requestDisarmSync (fun _ => rfl) (by simp) fun _ _ _ => ⟨_, rfl⟩,
    checks requestRestoreClock (fun _ => rfl) (by simp) fun _ _ _ => ⟨_, rfl⟩,
    checks requestReadOptions (fun _ => rfl) (by simp) fun _ _ _ => ⟨_, rfl⟩,
    checks requestStoreOptions (fun _ => rfl) (by simp) fun _ _ _ => ⟨_, rfl⟩⟩

/-! ## A kind that names no request -/

theorem knownKind_false {kind : Byte}
    (unnamed : kind ∉ ([0x10, 0x11, 0x12, 0x13, 0x14, 0x20, 0x21, 0x22, 0x23, 0x24, 0x30, 0x31, 0x32, 0x33, 0x34, 0x35,
      0x40, 0x41, 0x42, 0x48, 0x50, 0x51, 0x52, 0x53, 0x54, 0x55, 0x56, 0x57, 0x60, 0x61] : List Byte)) :
    knownKind kind = false := by
  simp only [List.mem_cons, List.not_mem_nil, or_false, not_or] at unnamed
  simp only [knownKind, requestOfKind, unnamed, if_false, Option.isSome_none]

theorem exec_unknownKind (s : State) :
    exec .unknownKind s = .next (runRequest (fun kind => !knownKind kind) requestUnknown s) := rfl

/-- An unknown kind is answered UNKNOWN_KIND (R138). -/
theorem unknownKind_refused {s : State} {j : EngineJob} {kind : Byte} {ps : List Byte} (held : Executing s j kind ps)
    (unknown : knownKind kind = false) : exec .unknownKind s = .next (s.replied j .unknownKind []) := by
  have wanted : (!knownKind kind) = true := by rw [unknown]; rfl
  rw [exec_unknownKind, runRequest_of_answer (want := fun kind => !knownKind kind) held wanted rfl]

/-- Settles O18: each check in its order, by what the parameters are read back as. -/
theorem commonChecksRefuse : Obligations.CommonChecksRefuse := by
  refine ⟨fun s j kind ps held unnamed => unknownKind_refused held (knownKind_false unnamed), openRows_checksOpen,
    ?none, ?info, ?opens, ?line, ?handle, fun s j ps opened => ?others⟩
  case none =>
    have rows : ∀ row ∈ ([(.closeSession, 0x11), (.heartbeat, 0x12), (.takeCaptures, 0x42), (.takeNotices, 0x48),
        (.readTime, 0x50), (.claimAuthority, 0x51), (.yieldAuthority, 0x52), (.disarmSync, 0x56),
        (.restoreClock, 0x57), (.readOptions, 0x60)] : List (Instr × Byte)), TakesNone row.1 row.2 := by
      simp only [List.forall_mem_cons, List.not_mem_nil, false_imp_iff, implies_true, and_true]
      exact ⟨Runs.takesNone (f := requestClose) (fun _ => rfl) fun _ _ _ => ⟨_, rfl⟩,
        Runs.takesNone (f := requestHeartbeat) (fun _ => rfl) fun _ _ _ => ⟨_, rfl⟩,
        Runs.takesNone (f := requestTakeCaptures) (fun _ => rfl) fun _ _ _ => ⟨_, rfl⟩,
        Runs.takesNone (f := requestTakeNotices) (fun _ => rfl) fun _ _ _ => ⟨_, rfl⟩,
        Runs.takesNone (f := requestReadTime) (fun _ => rfl) fun _ _ _ => ⟨_, rfl⟩,
        Runs.takesNone (f := requestClaimAuthority) (fun _ => rfl) fun _ _ _ => ⟨_, rfl⟩,
        Runs.takesNone (f := requestYieldAuthority) (fun _ => rfl) fun _ _ _ => ⟨_, rfl⟩,
        Runs.takesNone (f := requestDisarmSync) (fun _ => rfl) fun _ _ _ => ⟨_, rfl⟩,
        Runs.takesNone (f := requestRestoreClock) (fun _ => rfl) fun _ _ _ => ⟨_, rfl⟩,
        Runs.takesNone (f := requestReadOptions) (fun _ => rfl) fun _ _ _ => ⟨_, rfl⟩⟩
    exact rows
  case line =>
    have rows : ∀ row ∈ ([(.release, 0x21), (.lineStatus, 0x24), (.cancelLine, 0x33)] : List (Instr × Byte)),
        TakesLine row.1 row.2 := by
      simp only [List.forall_mem_cons, List.not_mem_nil, false_imp_iff, implies_true, and_true]
      exact ⟨Runs.takesLine (f := requestRelease) (fun _ => rfl) fun _ _ _ => ⟨_, rfl⟩,
        Runs.takesLine (f := requestLineStatus) (fun _ => rfl) fun _ _ _ => ⟨_, rfl⟩,
        Runs.takesLine (f := requestCancelLine) (fun _ => rfl) fun _ _ _ => ⟨_, rfl⟩⟩
    exact rows
  case handle =>
    have rows : ∀ row ∈ ([(.cancel, 0x32), (.queryEntry, 0x34), (.listEntries, 0x35)] : List (Instr × Byte)),
        TakesHandle row.1 row.2 := by
      simp only [List.forall_mem_cons, List.not_mem_nil, false_imp_iff, implies_true, and_true]
      exact ⟨Runs.takesHandle (f := requestCancel) (fun _ => rfl) fun _ _ _ => ⟨_, rfl⟩,
        Runs.takesHandle (f := requestQueryEntry) (fun _ => rfl) fun _ _ _ => ⟨_, rfl⟩,
        Runs.takesHandle (f := requestListEntries) (fun _ => rfl) fun _ _ _ => ⟨_, rfl⟩⟩
    exact rows
  case info =>
    intro s j ps held filled
    refine Runs.answers (f := requestInfo) (fun _ => rfl) held ?_
    rw [requestInfo, parseNone_of_ne_nil filled]
    rfl
  case opens =>
    intro s j ps held enabled other
    exact Runs.answers (f := requestOpen) (fun _ => rfl) held
      (requestOpen_invalid enabled (none_of_read fun _ read => other (parseOpen_length read)))
  case others =>
    refine ⟨fun held other => ?attention, fun held other => ?acquire, fun held other => ?schedule,
      fun held other => ?batch, fun held other => ?subscribe, fun held other => ?unsubscribe,
      fun held other => ?setTime, fun held other => ?shift, fun held other => ?arm, fun held other => ?store⟩
    case attention =>
      exact Runs.answers (f := requestSetAttention) (fun _ => rfl) held
        (whenOpen_withParams_none opened (none_of_read fun mask read => other mask (parseMask_some read)) _)
    case acquire =>
      exact Runs.answers (f := requestAcquire) (fun _ => rfl) held
        (whenOpen_withParams_none opened (none_of_read fun _ read => other _ _ _ (parseAcquire_some read)) _)
    case schedule =>
      exact Runs.answers (f := requestSchedule) (fun _ => rfl) held
        (whenOpen_withParams_none opened
          (none_of_read fun b read => other b (parseBooking_some read).1 (parseBooking_some read).2) _)
    case batch =>
      refine Runs.answers (f := requestBatch) (fun _ => rfl) held (requestBatch_invalid opened (none_of_read ?_))
      intro ms read
      obtain ⟨⟨least, most⟩, descriptors, bytes⟩ := (parseBatch_eq_some_iff ps ms).mp read
      exact other ms least most descriptors bytes
    case subscribe =>
      exact Runs.answers (f := requestSubscribe) (fun _ => rfl) held
        (whenOpen_withParams_none opened (none_of_read fun _ read => other _ _ (parseSubscribe_some read)) _)
    case unsubscribe =>
      exact Runs.answers (f := requestUnsubscribe) (fun _ => rfl) held
        (whenOpen_withParams_none opened (none_of_read fun i read => other i (parseInput_some read)) _)
    case setTime =>
      exact Runs.answers (f := requestSetTime) (fun _ => rfl) held
        (gated_none opened (none_of_read fun _ read => other (parseSetTime_length read)) _)
    case shift =>
      refine Runs.answers (f := requestShift) (fun _ => rfl) held (gated_none opened (none_of_read ?_) _)
      rintro ⟨d, m⟩ read
      obtain ⟨nonzero, rfl | rfl, bytes⟩ := parseShift_some read
      · exact (other m nonzero).1 bytes
      · exact (other m nonzero).2 bytes
    case arm =>
      exact Runs.answers (f := requestArmSync) (fun _ => rfl) held
        (gated_none opened (none_of_read fun load read => other load.value load.edge (parseArm_some read)) _)
    case store =>
      refine Runs.answers (f := requestStoreOptions) (fun _ => rfl) held (gated_none opened (none_of_read ?_) _)
      intro image read
      obtain ⟨o, fields, addresses, bytes⟩ := parseStoreImage_some read
      exact other o fields addresses bytes

end Sys2Proof.Machine
end
